-- ==== Sys2Proof/Word.lean ====
section
/-! DEFINITION. The word types of the CAN_Pressure sequencer (00_scope.md R7: every quantity is an unsigned
natural; a byte is 8 bits, a reading 12 bits). -/

namespace Sys2Proof

/-- A byte, the atom of every bus exchange (R7, R80). -/
abbrev Byte := BitVec 8

/-- A Channel Reading: 12 bits, unsigned, 0 to 4095 (R14). -/
abbrev Reading := BitVec 12

end Sys2Proof
end

