-- ==== Sys2Proof/Syntax.lean ====
section
/-! DEFINITION. The instructions: one constructor of `Instr` per row of spec/opcode_table.json, in the table's
order, with the operands the row leaves free; and the names the operands and the phase register use. -/

namespace Sys2Proof

/-- The two SPI buses (00_scope.md R6): A is the ADC's, B the CAN controller's. -/
inductive Bus where
  | busA
  | busB
deriving DecidableEq, Repr

/-- The two devices with a chip-select (00_scope.md R8). -/
inductive Device where
  | adc
  | can
deriving DecidableEq, Repr

/-- The bus a device is on (40_spi_transaction.md R83: ADC on A, CAN on B). -/
def Device.bus : Device → Bus
  | .adc => .busA
  | .can => .busB

/-- The one device of a bus (60_exceptions.md R148). -/
def Bus.device : Bus → Device
  | .busA => .adc
  | .busB => .can

/-- The phases of the sequencer, in the order of their codes 0 to 12 (10_state.md R17). -/
inductive Phase where
  | idle
  | canReset
  | canCfg
  | schedInit
  | stopCheck
  | sample
  | clock
  | store
  | tx
  | sleep
  | shutdown
  | stopped
  | failed
deriving DecidableEq, Repr

/-- One constructor per row of spec/opcode_table.json. The comment at a constructor names the row and its rule. -/
inductive Instr where
  -- wire rows (R54 to R65, R75 (1))
  /-- ADC_CMD (R86). -/
  | adcCmd (a : BitVec 3) (f : Byte)
  /-- ADC_CMD_a_0 (R87). -/
  | adcCmdA0 (f : Byte)
  /-- ADC_CMD_a_1 (R87). -/
  | adcCmdA1 (f : Byte)
  /-- ADC_CMD_a_2 (R87). -/
  | adcCmdA2 (f : Byte)
  /-- ADC_CMD_a_3 (R87). -/
  | adcCmdA3 (f : Byte)
  /-- ADC_CMD_a_4 (R87). -/
  | adcCmdA4 (f : Byte)
  /-- ADC_CMD_a_5 (R87). -/
  | adcCmdA5 (f : Byte)
  /-- ADC_CMD_a_6 (R87). -/
  | adcCmdA6 (f : Byte)
  /-- ADC_CMD_a_7 (R87). -/
  | adcCmdA7 (f : Byte)
  /-- ADC_ANSWER (R57). -/
  | adcAnswer (hi : BitVec 4) (v : Reading)
  /-- MUX_PATTERN (R85). -/
  | muxPattern (s : BitVec 4)
  /-- CAN_RESET_CMD (R95). -/
  | canResetCmd
  /-- CAN_WRITE_CMD (R96). -/
  | canWriteCmd (a v : Byte)
  /-- CAN_WRITE_CMD_W1 (R97). -/
  | canWriteCmdW1
  /-- CAN_WRITE_CMD_W2 (R97). -/
  | canWriteCmdW2 (v : Byte)
  /-- CAN_WRITE_CMD_W3 (R97). -/
  | canWriteCmdW3 (v : Byte)
  /-- CAN_WRITE_CMD_W4 (R97). -/
  | canWriteCmdW4 (v : Byte)
  /-- CAN_WRITE_CMD_W5 (R97). -/
  | canWriteCmdW5
  /-- CAN_LOAD_TX0_CMD (R101). -/
  | canLoadTx0Cmd (id : BitVec 11) (data : List Byte)
  /-- CAN_RTS0_CMD (R102). -/
  | canRts0Cmd
  /-- RD16_WORD (R123). -/
  | rd16Word (v : Reading)
  -- phase rows, format SEQ (R17, R75 (2))
  /-- P_IDLE (R17). -/
  | pIdle
  /-- CAN_RESET (R95). -/
  | canReset
  /-- CAN_CONFIGURE (R97). -/
  | canConfigure
  /-- SCHED_INIT (R109). -/
  | schedInit
  /-- STOP_CHECK (R111). -/
  | stopCheck
  /-- SAMPLE_ALL (R90). -/
  | sampleAll
  /-- READ_CLOCK (R112). -/
  | readClock
  /-- STORE_IF_DUE (R113). -/
  | storeIfDue
  /-- TX_IF_DUE (R114). -/
  | txIfDue
  /-- LOOP_SLEEP (R115). -/
  | loopSleep
  /-- SHUTDOWN (R116). -/
  | shutdown
  /-- P_STOPPED (R117). -/
  | pStopped
  /-- P_FAILED (R139). -/
  | pFailed
  -- step rows, format SEQ (R75 (3))
  /-- CAN_WRITE_REG_CTRL__MODE_CONFIG (R96). -/
  | cfgWrite1
  /-- CAN_WRITE_REG_CNF3__CNF3_VAL (R96). -/
  | cfgWrite2
  /-- CAN_WRITE_REG_CNF2__CNF2_VAL (R96). -/
  | cfgWrite3
  /-- CAN_WRITE_REG_CNF1__CNF1_VAL (R96). -/
  | cfgWrite4
  /-- CAN_WRITE_REG_CTRL__MODE_NORMAL (R96). -/
  | cfgWrite5
  /-- READ_DIRECT_0 (R88). -/
  | readDirect0
  /-- READ_DIRECT_1 (R88). -/
  | readDirect1
  /-- READ_DIRECT_2 (R88). -/
  | readDirect2
  /-- READ_DIRECT_3 (R88). -/
  | readDirect3
  /-- READ_DIRECT_4 (R88). -/
  | readDirect4
  /-- READ_DIRECT_5 (R88). -/
  | readDirect5
  /-- READ_DIRECT_6 (R88). -/
  | readDirect6
  /-- READ_MUXED_7 (R89). -/
  | readMuxed7
  /-- READ_MUXED_8 (R89). -/
  | readMuxed8
  /-- READ_MUXED_9 (R89). -/
  | readMuxed9
  /-- READ_MUXED_10 (R89). -/
  | readMuxed10
  /-- READ_MUXED_11 (R89). -/
  | readMuxed11
  /-- READ_MUXED_12 (R89). -/
  | readMuxed12
  /-- READ_MUXED_13 (R89). -/
  | readMuxed13
  /-- READ_MUXED_14 (R89). -/
  | readMuxed14
  /-- READ_MUXED_15 (R89). -/
  | readMuxed15
  /-- READ_MUXED_16 (R89). -/
  | readMuxed16
  /-- READ_MUXED_17 (R89). -/
  | readMuxed17
  /-- READ_MUXED_18 (R89). -/
  | readMuxed18
  /-- READ_MUXED_19 (R89). -/
  | readMuxed19
  /-- READ_MUXED_20 (R89). -/
  | readMuxed20
  /-- READ_MUXED_21 (R89). -/
  | readMuxed21
  /-- READ_MUXED_22 (R89). -/
  | readMuxed22
  /-- SEND_FRAME_0x100__SPLIT_0 (R126). -/
  | sendChunk0
  /-- SEND_FRAME_0x101__SPLIT_1 (R126). -/
  | sendChunk1
  /-- SEND_FRAME_0x102__SPLIT_2 (R126). -/
  | sendChunk2
  /-- SEND_FRAME_0x103__SPLIT_3 (R126). -/
  | sendChunk3
  /-- SEND_FRAME_0x104__SPLIT_4 (R126). -/
  | sendChunk4
  /-- SEND_FRAME_0x105__SPLIT_5 (R126). -/
  | sendChunk5
  -- rows without an encoding (R75 (4))
  /-- ACQ_b (R76). -/
  | acq (b : Bus)
  /-- CFG_b (R77). -/
  | cfg (b : Bus)
  /-- CSL_d (R78). -/
  | csl (d : Device)
  /-- WAIT_t (R79). -/
  | wait (t : Nat)
  /-- XFER_b__tx (R80). -/
  | xfer (b : Bus) (tx : Byte)
  /-- CSH_d (R81). -/
  | csh (d : Device)
  /-- REL_b (R82). -/
  | rel (b : Bus)
  /-- BURST_b__d__setup__bytes (R83). -/
  | burst (b : Bus) (d : Device) (setup : Nat) (tx : List Byte)
  /-- MUX_SET_s (R85). -/
  | muxSet (s : BitVec 4)
  /-- READ_ADC_a (R86). -/
  | readAdc (a : BitVec 3)
  /-- CAN_INIT (R99). -/
  | canInit
  /-- SEND_FRAME_id__bytes (R103). -/
  | sendFrame (id : BitVec 16) (data : List Byte)
  /-- PACK (R123). -/
  | pack
  /-- SPLIT_k (R124). -/
  | split (k : Fin 6)
  /-- SEND_READINGS (R126). -/
  | sendReadings
  /-- RUN (R108). -/
  | run
deriving DecidableEq, Repr

end Sys2Proof
end

