-- ==== Sys2Proof/Config.lean ====
section
/-! DEFINITION. What an implementation fixes: the constants of 00_scope.md R4, the parameters of R5, the words of
spec/opcode_table.json that hold a parameter's default, and the free values (opaque constants without a body, so
that nothing can be proved of a value of theirs). -/

namespace Sys2Proof.Config

/-! ### Parameters the source fixes (R4). Times in µs (D2). -/

/-- N_CH: readings per sampling cycle. -/
def nCh : Nat := 23
/-- N_DIRECT: direct channels. -/
def nDirect : Nat := 7
/-- MUX_ADC_INPUT: the ADC input of every multiplexed channel. -/
def muxAdcInput : BitVec 3 := 0
/-- SPI_MODE_A: clock phase and polarity of bus A. -/
def spiModeA : BitVec 2 := 0
/-- T_CS_SETUP. -/
def tCsSetup : Nat := 1
/-- T_MUX_SETTLE. -/
def tMuxSettle : Nat := 50
/-- T_CAN_RESET. -/
def tCanReset : Nat := 10000
/-- T_INTERFRAME. -/
def tInterframe : Nat := 5000
/-- T_LOOP_SLEEP. -/
def tLoopSleep : Nat := 100000
/-- STORE_PERIOD. -/
def storePeriod : Nat := 1000000
/-- TX_PERIOD. -/
def txPeriod : Nat := 500000
/-- The largest 11-bit identifier (CAN_ID_BITS = 11). -/
def canIdMax : Nat := 0x7FF
/-- CAN_MAX_LEN: most payload bytes of a frame. -/
def canMaxLen : Nat := 8
/-- CAN_BASE_ID: identifier of chunk 0. -/
def canBaseId : Nat := 0x100
/-- PAYLOAD_BYTES: 23 readings of 2 bytes. -/
def payloadBytes : Nat := 46
/-- CHUNK_BYTES. -/
def chunkBytes : Nat := 8
/-- N_CHUNKS. -/
def nChunks : Nat := 6

/-! ### Parameters the source names and gives no value for (R5). -/

/-- The parameters of R5, one field each. A machine has one value of this, for all its life (R4: "no dynamic
reconfiguration of channel count or protocol parameters at runtime"). -/
structure Params where
  spiAHz : Nat
  spiBHz : Nat
  spiModeB : BitVec 2
  adcFill : Byte
  opReset : Byte
  opWrite : Byte
  opLoadTx0 : Byte
  opRts0 : Byte
  regCtrl : Byte
  regCnf1 : Byte
  regCnf2 : Byte
  regCnf3 : Byte
  modeConfig : Byte
  modeNormal : Byte
  cnf1Val : Byte
  cnf2Val : Byte
  cnf3Val : Byte
  txLoadSplit : Bool
  ifdAfterLast : Bool
deriving DecidableEq, Repr, Inhabited

/-- The parameters of the machine at hand: OPEN (R5, D14, D15, D33), so a constant without a body. Log 3. -/
opaque params : Params

/-! The defaults of R5 (`[from general knowledge, not in source]`, or the decision it names). They are used for the
words of the opcode table, whose patterns are written with them (30_encoding.md R75), and for tests. -/

/-- Default of OP_RESET. -/
def defOpReset : Byte := 0xC0
/-- Default of OP_WRITE. -/
def defOpWrite : Byte := 0x02
/-- Default of OP_LOAD_TX0. -/
def defOpLoadTx0 : Byte := 0x40
/-- Default of OP_RTS0. -/
def defOpRts0 : Byte := 0x81
/-- Default of REG_CTRL. -/
def defRegCtrl : Byte := 0x0F
/-- Default of REG_CNF1. -/
def defRegCnf1 : Byte := 0x2A
/-- Default of REG_CNF2. -/
def defRegCnf2 : Byte := 0x29
/-- Default of REG_CNF3. -/
def defRegCnf3 : Byte := 0x28
/-- Default of MODE_CONFIG. -/
def defModeConfig : Byte := 0x80
/-- Default of MODE_NORMAL. -/
def defModeNormal : Byte := 0x00

/-- The defaults of R5, over the parameters that have none (SPI rates, timing values). -/
def defaults (aHz bHz : Nat) (c1 c2 c3 : Byte) : Params :=
  { spiAHz := aHz, spiBHz := bHz, spiModeB := 0, adcFill := 0x00,
    opReset := defOpReset, opWrite := defOpWrite, opLoadTx0 := defOpLoadTx0, opRts0 := defOpRts0,
    regCtrl := defRegCtrl, regCnf1 := defRegCnf1, regCnf2 := defRegCnf2, regCnf3 := defRegCnf3,
    modeConfig := defModeConfig, modeNormal := defModeNormal,
    cnf1Val := c1, cnf2Val := c2, cnf3Val := c3, txLoadSplit := false, ifdAfterLast := true }

/-! ### Free values -/

/-- What the storage sink answers (43_cyclic_scheduler.md R113). -/
inductive StoreResult where
  | ok
  | dropped
deriving DecidableEq, Repr, Inhabited

/-- The pin, lock and select-line state that is unspecified after a loop fault (60_exceptions.md R139, U9). -/
structure Pins where
  muxsel : BitVec 4
  adcCsn : Bool
  canCsn : Bool
  heldA : Bool
  heldB : Bool
deriving DecidableEq, Repr, Inhabited

/-! The draws of R10 that a state does not list: the n-th draw of a run is the opaque constant at n. Log 2. -/

/-- Is RUN started (70_reset_and_hazards.md R155)? -/
opaque startDraw : Nat → Bool
/-- Is a condition signalled at this boundary, and with which cause (R138)? -/
opaque faultDraw : Nat → Option Nat
/-- Is the lock of a bus free when the block asks for it for the n-th time (20_memory.md R50)? -/
opaque grantDraw : Bus → Nat → Bool
/-- The byte the selected device answers (R80). -/
opaque rxDraw : Nat → Byte
/-- By how much the clock value exceeds the least value R110 allows. -/
opaque clockDraw : Nat → Nat
/-- The level of the stop signal (R111). -/
opaque stopDraw : Nat → Bool
/-- The answer of the storage sink (R113). -/
opaque storeDraw : Nat → StoreResult
/-- The pins, locks and select lines from a loop fault on (U9). Log 7. -/
opaque pinsAfterFault : Nat → Pins

end Sys2Proof.Config
end

