-- ==== Sys2Proof/WellFormed.lean ====
section
/-! DEFINITION. Which instructions are well-formed: the operand ranges the spec states that the operands' types do
not already enforce. -/

namespace Sys2Proof

/-- Operand checks: WAIT has t > 0 (R79); BURST has its device on its bus and at least one byte
(40_spi_transaction.md R83), any setup wait and any bytes (DESIGN CHOICE, log 21); a transmit-buffer load has 0 to 8 data bytes (30_encoding.md R61, R63). SEND_FRAME has no check here: its
operand check is the machine's own (42_can_link_driver.md R100). -/
def Instr.wellFormed : Instr → Bool
  | .wait t => 0 < t
  | .burst b d _ tx => d.bus = b && !tx.isEmpty
  | .canLoadTx0Cmd _ data => data.length ≤ Config.canMaxLen
  | .adcCmd _ _ | .adcCmdA0 _ | .adcCmdA1 _ | .adcCmdA2 _ | .adcCmdA3 _ | .adcCmdA4 _ | .adcCmdA5 _ | .adcCmdA6 _
  | .adcCmdA7 _ | .adcAnswer _ _ | .muxPattern _ | .canResetCmd | .canWriteCmd _ _ | .canWriteCmdW1
  | .canWriteCmdW2 _ | .canWriteCmdW3 _ | .canWriteCmdW4 _ | .canWriteCmdW5 | .canRts0Cmd | .rd16Word _
  | .pIdle | .canReset | .canConfigure | .schedInit | .stopCheck | .sampleAll | .readClock | .storeIfDue | .txIfDue
  | .loopSleep | .shutdown | .pStopped | .pFailed
  | .cfgWrite1 | .cfgWrite2 | .cfgWrite3 | .cfgWrite4 | .cfgWrite5
  | .readDirect0 | .readDirect1 | .readDirect2 | .readDirect3 | .readDirect4 | .readDirect5 | .readDirect6
  | .readMuxed7 | .readMuxed8 | .readMuxed9 | .readMuxed10 | .readMuxed11 | .readMuxed12 | .readMuxed13 | .readMuxed14
  | .readMuxed15 | .readMuxed16 | .readMuxed17 | .readMuxed18 | .readMuxed19 | .readMuxed20 | .readMuxed21 | .readMuxed22
  | .sendChunk0 | .sendChunk1 | .sendChunk2 | .sendChunk3 | .sendChunk4 | .sendChunk5
  | .acq _ | .cfg _ | .csl _ | .xfer _ _ | .csh _ | .rel _ | .muxSet _ | .readAdc _ | .canInit | .sendFrame _ _
  | .pack | .split _ | .sendReadings | .run => true

end Sys2Proof
end

