-- ==== Sys2Proof/Decode.lean ====
section
/-! DEFINITION. The decoder and the encoder (30_encoding.md). The block fetches no instruction words (R52, R54): what
is decoded is (1) the code in the phase register, (2) a word on a bus, on the select lines or in a payload. "A decoder
of the block's output tells formats apart by where they appear, not by their bits" (R54), so the decoder takes the
place and the bytes. The patterns of bus B are those of spec/opcode_table.json, with the default opcodes (R75). -/

namespace Sys2Proof

/-! ### Bit fields -/

/-- The ADC command byte of input `a` (R55): bit 7 = 1, bits 6:4 = a, bits 3:0 = 0. -/
def adcCommandByte (a : BitVec 3) : Byte := 0x80#8 ||| (a.setWidth 8 <<< 4)

/-- Reading extraction (R57): `((rx0 & 0x0F) << 8) | rx1`. -/
def readingOf (rx0 rx1 : Byte) : Reading := ((rx0 &&& 0x0F#8).setWidth 12 <<< 8) ||| rx1.setWidth 12

/-- First byte of a packed reading, `v >> 8` (R65). -/
def readingHigh (v : Reading) : Byte := (v >>> 8).setWidth 8

/-- Second byte of a packed reading, `v & 0xFF` (R65). -/
def readingLow (v : Reading) : Byte := v.setWidth 8

/-- Identifier high byte, `id >> 3` (R62). -/
def idHigh (id : BitVec 11) : Byte := (id >>> 3).setWidth 8

/-- Identifier low byte, `(id & 7) << 5` (R62). -/
def idLow (id : BitVec 11) : Byte := (id &&& 7#11).setWidth 8 <<< 5

/-- The identifier the two bytes of R62 carry. -/
def idOf (h l : Byte) : BitVec 11 := (h.setWidth 11 <<< 3) ||| (l >>> 5).setWidth 11

/-- The five header bytes of a transmit-buffer load (10_state.md R28, R61): identifier high, identifier low, two zero
bytes, the data-length code. -/
def loadHeader (id : BitVec 11) (len : Nat) : List Byte :=
  [idHigh id, idLow id, 0x00#8, 0x00#8, BitVec.ofNat 8 len]

/-- `n` bytes of `w`, most significant first (R75: "most significant bit of the first byte first"). -/
def bytesOf (n w : Nat) : List Byte := (List.range n).map fun i => BitVec.ofNat 8 (w >>> (8 * (n - 1 - i)))

/-! ### The phase register (format SEQ, R17, R68) -/

/-- The thirteen phases, by code (R17). -/
def phases : List Phase :=
  [.idle, .canReset, .canCfg, .schedInit, .stopCheck, .sample, .clock, .store, .tx, .sleep, .shutdown, .stopped, .failed]

/-- The 4-bit code of a phase (R17). -/
def phaseCode : Phase → Nat
  | .idle => 0
  | .canReset => 1
  | .canCfg => 2
  | .schedInit => 3
  | .stopCheck => 4
  | .sample => 5
  | .clock => 6
  | .store => 7
  | .tx => 8
  | .sleep => 9
  | .shutdown => 10
  | .stopped => 11
  | .failed => 12

/-- The phase a code names; codes 13 to 15 name none (R17). -/
def phaseOfCode (p : Nat) : Option Phase := phases[p]?

/-- The greatest index of a phase (R17, last column). -/
def lastIndex : Phase → Nat
  | .canCfg => 4
  | .sample => 22
  | .tx => 5
  | _ => 0

/-- `pc = (p, k)` as a 9-bit word: `pc[8:5] = p`, `pc[4:0] = k` (R17). -/
def pcWord (p : Phase) (k : Nat) : BitVec 9 := BitVec.ofNat 9 (phaseCode p * 32 + k)

/-- The phase field of the phase register. -/
def pcPhase (w : BitVec 9) : Option Phase := phaseOfCode (w.toNat / 32)

/-- The index field of the phase register. -/
def pcIndex (w : BitVec 9) : Nat := w.toNat % 32

/-- The operation of a phase (R17, third column). -/
def phaseRow : Phase → Instr
  | .idle => .pIdle
  | .canReset => .canReset
  | .canCfg => .canConfigure
  | .schedInit => .schedInit
  | .stopCheck => .stopCheck
  | .sample => .sampleAll
  | .clock => .readClock
  | .store => .storeIfDue
  | .tx => .txIfDue
  | .sleep => .loopSleep
  | .shutdown => .shutdown
  | .stopped => .pStopped
  | .failed => .pFailed

/-- The five writes W1 to W5 of phase 2 (R97). -/
def cfgRows : List Instr := [.cfgWrite1, .cfgWrite2, .cfgWrite3, .cfgWrite4, .cfgWrite5]

/-- The 23 reads of phase 5 (41_analog_sampler.md R90). -/
def sampleRows : List Instr :=
  [.readDirect0, .readDirect1, .readDirect2, .readDirect3, .readDirect4, .readDirect5, .readDirect6,
   .readMuxed7, .readMuxed8, .readMuxed9, .readMuxed10, .readMuxed11, .readMuxed12, .readMuxed13, .readMuxed14,
   .readMuxed15, .readMuxed16, .readMuxed17, .readMuxed18, .readMuxed19, .readMuxed20, .readMuxed21, .readMuxed22]

/-- The six chunks of phase 8 (44_frame_splitting.md R126). -/
def chunkRows : List Instr := [.sendChunk0, .sendChunk1, .sendChunk2, .sendChunk3, .sendChunk4, .sendChunk5]

/-- The step rows of a phase, by index (R75 (3)). -/
def stepRows : Phase → List Instr
  | .canCfg => cfgRows
  | .sample => sampleRows
  | .tx => chunkRows
  | _ => []

/-- Why a word is no instruction. -/
inductive DecodeError where
  /-- A phase code 13 to 15 (R17: "Codes 13 to 15 are not used and no rule reaches them"). -/
  | unusedPhase (code : Nat)
  /-- An index the phase does not have (R17, last column). -/
  | indexOutOfRange (p : Phase) (k : Nat)
  /-- A phase word of more than 9 bits, or not of two bytes. -/
  | notAPhaseWord
  /-- Bytes on bus A that are no ADC command: not two, or a bit of R55 wrong. -/
  | notAnAdcCommand
  /-- An answer of other than two bytes (R56). -/
  | notAnAdcAnswer
  /-- A select pattern that is not one byte with bits 7:4 zero (R58). -/
  | notASelectPattern
  /-- A burst on bus B that is none of the four commands (R75). -/
  | notACanCommand
  /-- A payload word that is not two bytes with bits 15:12 zero (R65). -/
  | notAReadingWord
deriving DecidableEq, Repr

/-- The row of a legal `(p, k)`: the most specific one, a step row where there is one (R75: "a decoder takes the most
specific row that matches"). -/
def decodePhaseWord (w : Nat) : Except DecodeError Instr :=
  match phaseOfCode (w / 32) with
  | none => .error (.unusedPhase (w / 32))
  | some p =>
    if w % 32 ≤ lastIndex p then
      match (stepRows p)[w % 32]? with
      | some i => .ok i
      | none => .ok (phaseRow p)
    else .error (.indexOutOfRange p (w % 32))

/-- What the sequencer runs when no operation is in progress (R17, R108): at index 0 the operation of the phase, at
another index the step row of that index. Log 12. -/
def decodePc (w : BitVec 9) : Except DecodeError Instr :=
  if pcIndex w = 0 then
    match pcPhase w with
    | none => .error (.unusedPhase (w.toNat / 32))
    | some p => .ok (phaseRow p)
  else decodePhaseWord w.toNat

/-! ### The wire formats -/

/-- The instance row of ADC_CMD for input `a`. -/
def adcInstance (a : BitVec 3) (f : Byte) : Instr :=
  match a.toNat with
  | 0 => .adcCmdA0 f
  | 1 => .adcCmdA1 f
  | 2 => .adcCmdA2 f
  | 3 => .adcCmdA3 f
  | 4 => .adcCmdA4 f
  | 5 => .adcCmdA5 f
  | 6 => .adcCmdA6 f
  | _ => .adcCmdA7 f

/-- The most specific row of a register write: W1 to W5 of R97 where the address (and for W1, W5 the value) is theirs,
else CAN_WRITE_CMD (R75). -/
def canWriteInstance (a v : Byte) : Instr :=
  if a = Config.defRegCtrl ∧ v = Config.defModeConfig then .canWriteCmdW1
  else if a = Config.defRegCnf3 then .canWriteCmdW2 v
  else if a = Config.defRegCnf2 then .canWriteCmdW3 v
  else if a = Config.defRegCnf1 then .canWriteCmdW4 v
  else if a = Config.defRegCtrl ∧ v = Config.defModeNormal then .canWriteCmdW5
  else .canWriteCmd a v

/-- Where a word appears (R54). -/
inductive Place where
  /-- the phase register -/
  | phase
  /-- bus A, out -/
  | busAOut
  /-- bus A, in -/
  | busAIn
  /-- bus B, one burst -/
  | busB
  /-- the select lines -/
  | select
  /-- inside a CAN payload -/
  | payload
deriving DecidableEq, Repr

/-- A transmit-buffer load from the bytes after its opcode (R61 to R63). -/
def decodeLoad : List Byte → Except DecodeError Instr
  | h :: l :: e8 :: e0 :: n :: data =>
    if l &&& 0x1F#8 = 0#8 ∧ e8 = 0#8 ∧ e0 = 0#8 ∧ n.toNat ≤ Config.canMaxLen ∧ data.length = n.toNat then
      .ok (.canLoadTx0Cmd (idOf h l) data)
    else .error .notACanCommand
  | _ => .error .notACanCommand

/-- One burst on bus B: "every command is exactly one chip-select burst" (R71). -/
def decodeBusB : List Byte → Except DecodeError Instr
  | [] => .error .notACanCommand
  | op :: rest =>
    if op = Config.defOpLoadTx0 then decodeLoad rest
    else
      match rest with
      | [] =>
        if op = Config.defOpReset then .ok .canResetCmd
        else if op = Config.defOpRts0 then .ok .canRts0Cmd
        else .error .notACanCommand
      | [a, v] => if op = Config.defOpWrite then .ok (canWriteInstance a v) else .error .notACanCommand
      | _ => .error .notACanCommand

/-- The decoder, total on any bytes at any place, rejecting by name. -/
def decode : Place → List Byte → Except DecodeError Instr
  | .phase, [b0, b1] =>
    if b0.toNat < 2 then decodePhaseWord (b0.toNat * 256 + b1.toNat) else .error .notAPhaseWord
  | .phase, _ => .error .notAPhaseWord
  | .busAOut, [b0, b1] =>
    if b0 &&& 0x8F#8 = 0x80#8 then .ok (adcInstance ((b0 >>> 4).setWidth 3) b1) else .error .notAnAdcCommand
  | .busAOut, _ => .error .notAnAdcCommand
  | .busAIn, [b0, b1] => .ok (.adcAnswer ((b0 >>> 4).setWidth 4) (readingOf b0 b1))
  | .busAIn, _ => .error .notAnAdcAnswer
  | .select, [b] => if b.toNat < 16 then .ok (.muxPattern (b.setWidth 4)) else .error .notASelectPattern
  | .select, _ => .error .notASelectPattern
  | .payload, [b0, b1] =>
    if b0.toNat < 16 then .ok (.rd16Word (readingOf b0 b1)) else .error .notAReadingWord
  | .payload, _ => .error .notAReadingWord
  | .busB, bs => decodeBusB bs

/-- The first success of a list of attempts. -/
def firstOk : List (Except DecodeError Instr) → Option Instr
  | [] => none
  | .ok i :: _ => some i
  | .error _ :: rest => firstOk rest

/-- The instruction read from a word numbered as spec/opcode_table.json numbers it: the whole format as one number,
most significant bit of the first byte first (R75). The word has no place, so the places of its length are tried, the
most specific pattern first (R75); a 48-bit load has its data bytes above the table's bits, all zero. A number of bits that
is no whole number of bytes is rounded up, and the word is then tried at the one place whose format is no whole number of
bytes and has that length so rounded, the select lines (MUX4, 4 bits) or the phase register (SEQ, 9 bits): R54 gives no
other (DESIGN CHOICE, log 11). -/
def decodeTableWord (nbits w : Nat) : Option Instr :=
  let n := (nbits + 7) / 8
  if w < 2 ^ nbits then
    let bs := bytesOf n w
    if nbits % 8 = 0 then
      match n with
      | 1 => firstOk [decode .select bs, decode .busB bs]
      | 2 => firstOk [decode .phase bs, decode .busAOut bs, decode .payload bs, decode .busAIn bs]
      | 6 => firstOk [decode .busB (bs ++ List.replicate (w % 16) 0#8)]
      | _ => firstOk [decode .busB bs]
    else
      match n with
      | 1 => firstOk [decode .select bs]
      | 2 => firstOk [decode .phase bs]
      | _ => none
  else none

/-! ### The encoder, from the same tables -/

/-- The two bytes of a phase word. -/
def phaseBytes (p : Phase) (k : Nat) : List Byte := bytesOf 2 (pcWord p k).toNat

/-- The bytes of an instruction at its place; `none` for the rows of format NONE, which "carry the rule and no
pattern" (R75 (4)). -/
def encode : Instr → Option (Place × List Byte)
  | .adcCmd a f => some (.busAOut, [adcCommandByte a, f])
  | .adcCmdA0 f => some (.busAOut, [0x80#8, f])
  | .adcCmdA1 f => some (.busAOut, [0x90#8, f])
  | .adcCmdA2 f => some (.busAOut, [0xA0#8, f])
  | .adcCmdA3 f => some (.busAOut, [0xB0#8, f])
  | .adcCmdA4 f => some (.busAOut, [0xC0#8, f])
  | .adcCmdA5 f => some (.busAOut, [0xD0#8, f])
  | .adcCmdA6 f => some (.busAOut, [0xE0#8, f])
  | .adcCmdA7 f => some (.busAOut, [0xF0#8, f])
  | .adcAnswer hi v => some (.busAIn, [(hi.setWidth 8 <<< 4) ||| readingHigh v, readingLow v])
  | .muxPattern s => some (.select, [s.setWidth 8])
  | .canResetCmd => some (.busB, [Config.defOpReset])
  | .canWriteCmd a v => some (.busB, [Config.defOpWrite, a, v])
  | .canWriteCmdW1 => some (.busB, [Config.defOpWrite, Config.defRegCtrl, Config.defModeConfig])
  | .canWriteCmdW2 v => some (.busB, [Config.defOpWrite, Config.defRegCnf3, v])
  | .canWriteCmdW3 v => some (.busB, [Config.defOpWrite, Config.defRegCnf2, v])
  | .canWriteCmdW4 v => some (.busB, [Config.defOpWrite, Config.defRegCnf1, v])
  | .canWriteCmdW5 => some (.busB, [Config.defOpWrite, Config.defRegCtrl, Config.defModeNormal])
  | .canLoadTx0Cmd id data => some (.busB, Config.defOpLoadTx0 :: loadHeader id data.length ++ data)
  | .canRts0Cmd => some (.busB, [Config.defOpRts0])
  | .rd16Word v => some (.payload, [readingHigh v, readingLow v])
  | .pIdle => some (.phase, phaseBytes .idle 0)
  | .canReset => some (.phase, phaseBytes .canReset 0)
  | .canConfigure => some (.phase, phaseBytes .canCfg 0)
  | .schedInit => some (.phase, phaseBytes .schedInit 0)
  | .stopCheck => some (.phase, phaseBytes .stopCheck 0)
  | .sampleAll => some (.phase, phaseBytes .sample 0)
  | .readClock => some (.phase, phaseBytes .clock 0)
  | .storeIfDue => some (.phase, phaseBytes .store 0)
  | .txIfDue => some (.phase, phaseBytes .tx 0)
  | .loopSleep => some (.phase, phaseBytes .sleep 0)
  | .shutdown => some (.phase, phaseBytes .shutdown 0)
  | .pStopped => some (.phase, phaseBytes .stopped 0)
  | .pFailed => some (.phase, phaseBytes .failed 0)
  | .cfgWrite1 => some (.phase, phaseBytes .canCfg 0)
  | .cfgWrite2 => some (.phase, phaseBytes .canCfg 1)
  | .cfgWrite3 => some (.phase, phaseBytes .canCfg 2)
  | .cfgWrite4 => some (.phase, phaseBytes .canCfg 3)
  | .cfgWrite5 => some (.phase, phaseBytes .canCfg 4)
  | .readDirect0 => some (.phase, phaseBytes .sample 0)
  | .readDirect1 => some (.phase, phaseBytes .sample 1)
  | .readDirect2 => some (.phase, phaseBytes .sample 2)
  | .readDirect3 => some (.phase, phaseBytes .sample 3)
  | .readDirect4 => some (.phase, phaseBytes .sample 4)
  | .readDirect5 => some (.phase, phaseBytes .sample 5)
  | .readDirect6 => some (.phase, phaseBytes .sample 6)
  | .readMuxed7 => some (.phase, phaseBytes .sample 7)
  | .readMuxed8 => some (.phase, phaseBytes .sample 8)
  | .readMuxed9 => some (.phase, phaseBytes .sample 9)
  | .readMuxed10 => some (.phase, phaseBytes .sample 10)
  | .readMuxed11 => some (.phase, phaseBytes .sample 11)
  | .readMuxed12 => some (.phase, phaseBytes .sample 12)
  | .readMuxed13 => some (.phase, phaseBytes .sample 13)
  | .readMuxed14 => some (.phase, phaseBytes .sample 14)
  | .readMuxed15 => some (.phase, phaseBytes .sample 15)
  | .readMuxed16 => some (.phase, phaseBytes .sample 16)
  | .readMuxed17 => some (.phase, phaseBytes .sample 17)
  | .readMuxed18 => some (.phase, phaseBytes .sample 18)
  | .readMuxed19 => some (.phase, phaseBytes .sample 19)
  | .readMuxed20 => some (.phase, phaseBytes .sample 20)
  | .readMuxed21 => some (.phase, phaseBytes .sample 21)
  | .readMuxed22 => some (.phase, phaseBytes .sample 22)
  | .sendChunk0 => some (.phase, phaseBytes .tx 0)
  | .sendChunk1 => some (.phase, phaseBytes .tx 1)
  | .sendChunk2 => some (.phase, phaseBytes .tx 2)
  | .sendChunk3 => some (.phase, phaseBytes .tx 3)
  | .sendChunk4 => some (.phase, phaseBytes .tx 4)
  | .sendChunk5 => some (.phase, phaseBytes .tx 5)
  | .acq _ | .cfg _ | .csl _ | .wait _ | .xfer _ _ | .csh _ | .rel _ | .burst _ _ _ _ | .muxSet _ | .readAdc _
  | .canInit | .sendFrame _ _ | .pack | .split _ | .sendReadings | .run => none

/-- The most specific row that matches an instruction's word (R75): ADC_CMD and CAN_WRITE_CMD stand for their
instances, and a phase row at index 0 for its first step row. -/
def Instr.mostSpecific : Instr → Instr
  | .adcCmd a f => adcInstance a f
  | .canWriteCmd a v => canWriteInstance a v
  | .canConfigure => .cfgWrite1
  | .sampleAll => .readDirect0
  | .txIfDue => .sendChunk0
  | i => i

end Sys2Proof
end

