-- ==== Sys2Proof/Machine/State.lean ====
section
/-! DEFINITION. The state of the machine as plain data (10_state.md), the reasons a step can stop, and the state after
reset (R31). -/

namespace Sys2Proof.Machine

/-- CANST, the CAN Link Driver's state (R20). -/
inductive CanState where
  | uninitialized
  | resetting
  | configuring
  | operational
deriving DecidableEq, Repr

/-- TxError (60_exceptions.md R131, codes 1 and 2), with the value it records. -/
inductive TxError where
  | idOutOfRange (id : BitVec 16)
  | payloadTooLong (len : Nat)
deriving DecidableEq, Repr

/-- The cause of a LoopFault (R138): a condition signalled on `fault_in`, its cause a draw; or a TxError inside the loop
(R132, D34). -/
inductive Cause where
  | signalled (c : Nat)
  | txError (e : TxError)
deriving DecidableEq, Repr

/-- The event alphabet (00_scope.md R9). -/
inductive Event where
  | acq (bus : Bus)
  | cfg (bus : Bus) (hz : Nat) (mode : BitVec 2)
  | csl (d : Device)
  | csh (d : Device)
  | wait (t : Nat)
  | xfer (bus : Bus) (tx rx : Byte)
  | rel (bus : Bus)
  | mux (s : BitVec 4)
  | clk (t : Nat)
  | stopq (v : Bool)
  | store (ts : Nat) (v : List Reading) (r : Config.StoreResult)
  | unmount
  | log (c : Cause)
deriving DecidableEq, Repr

/-- The value an operation returned: a reading (R86), packed bytes (R124, R65), Ok or a TxError (R103). The bytes that XFER and BURST return
are not kept here but in the state's `rx` (log 6). -/
inductive Ret where
  | nothing
  | reading (v : Reading)
  | bytes (l : List Byte)
  | ok
  | txError (e : TxError)
deriving DecidableEq, Repr

/-- What an operation does without an event, after the event before it. -/
inductive Act where
  /-- the ADC answer is decoded and returned (R86) -/
  | answer
  /-- the returned reading is written to `x[i]` (R88, R89) -/
  | writeX (i : Fin 23)
  /-- the phase register is written (R18) -/
  | setPc (w : BitVec 9)
  /-- CANST is written (R98) -/
  | setCanst (c : CanState)
  /-- a register write has been sent to the controller (R27, log 17) -/
  | noteReg (a v : Byte)
  /-- transmit buffer 0 has been loaded (R27, log 17) -/
  | noteTx (bytes : List Byte)
  /-- SEND_FRAME returns Ok (R103) -/
  | sent
  /-- LAST_TX is set to NOW (R114) -/
  | lastTx
  /-- SEND_READINGS ends, and with it the value of PAY (R26) -/
  | dropPay
deriving DecidableEq, Repr

/-- One item of the operation in progress. -/
inductive Frame where
  /-- an encoded operation placed from outside (`withFetchWord`, log 10) -/
  | word (nbits w : Nat)
  /-- an operation still to be run -/
  | op (i : Instr)
  /-- `Log(c)` of the fault path (R139) -/
  | log (c : Cause)
  /-- what is done without an event once everything before it is done -/
  | act (a : Act)
deriving DecidableEq, Repr

/-- Bytes by address: addresses strictly rising, an unlisted address holding no value (log 17). -/
abbrev Mem := List Host.Cell

/-- The environment's draws still to come, per input (00_scope.md R10); where a list is empty the draw is the opaque
constant of Config at `count`, the number of draws made, or, for a lock, at the number of requests made of that bus. Log 2. -/
structure Env where
  start : List Bool
  fault : List (Option Nat)
  grantA : List Bool
  grantB : List Bool
  rx : List Byte
  clock : List Nat
  stop : List Bool
  store : List Config.StoreResult
  count : Nat
  /-- how often the lock of bus A has been asked for -/
  askedA : Nat
  /-- how often the lock of bus B has been asked for -/
  askedB : Nat
deriving DecidableEq, Repr

/-- The state: the tuple of R13 first, then what the model adds. -/
structure State where
  /-- `x[0..22]`, none where unwritten (R14, R15) -/
  x : Vector (Option Reading) 23
  /-- `TS` (R16) -/
  ts : Option Nat
  /-- `NOW` (R16) -/
  now : Option Nat
  /-- `pc = (p, k)` (R17) -/
  pc : BitVec 9
  /-- `LAST_STORE` (R21) -/
  lastStore : Option Nat
  /-- `LAST_TX` (R21) -/
  lastTx : Option Nat
  /-- `CANST` (R20) -/
  canst : CanState
  /-- `MUXSEL` (R22) -/
  muxsel : BitVec 4
  /-- `ADC_CSN`, true is high (R23) -/
  adcCsn : Bool
  /-- `CAN_CSN`, true is high (R23) -/
  canCsn : Bool
  /-- `HELD_A` (R24) -/
  heldA : Bool
  /-- `HELD_B` (R24) -/
  heldB : Bool
  /-- `CFGV_A` (R25) -/
  cfgvA : Bool
  /-- `CFGV_B` (R25) -/
  cfgvB : Bool
  /-- the bytes of `PAY[0..45]`, none where unwritten (R26) -/
  pay : Vector (Option Byte) 46
  /-- PAY holds a value: a PACK has written it and the SEND_READINGS that called it has not ended (R26, log 18) -/
  payLive : Bool
  /-- `FAULT` with the recorded cause (R32) -/
  fault : Option Cause
  /-- `REFUSED` (R32) -/
  refused : Bool
  /-- the trace (R33) -/
  trace : List Event
  /-- model: the operation in progress (R139, R73) -/
  agenda : List Frame
  /-- model: the bytes received in the burst in progress or the last one (R83) -/
  rx : List Byte
  /-- model: the value last returned by an operation that returns a reading, packed bytes, Ok or a TxError; what XFER and BURST
  return is in `rx` (log 6) -/
  ret : Ret
  /-- model: the last clock value returned (R110) -/
  lastClk : Option Nat
  /-- model: the waits since then (R110, law 2) -/
  waited : Nat
  /-- model: the CAN controller's registers as the block last wrote them (R27) -/
  canRegs : Mem
  /-- model: transmit buffer 0 as the block last wrote it (R27, R28) -/
  txb0 : Mem
  /-- model: the environment's draws -/
  env : Env
  /-- the parameters of R5, which no step writes (R4, R30) -/
  params : Config.Params
deriving DecidableEq, Repr

/-- Why the machine stops. Every one is safe: nothing is claimed of a machine that has stopped. -/
inductive Fault where
  /-- A read of a register nothing has written: "fault of the model; unreachable in RUN" (93_implementation_defined.md U11;
  R15, D26). Raised by STORE_IF_DUE, TX_IF_DUE, PACK, SPLIT, SEND_READINGS and the chunk rows. Safe. -/
  | unwritten
  /-- CFG without the lock (R77 "Requires `HELD_b`"). Safe. -/
  | cfgWithoutLock
  /-- CSL without the lock or the configuration (R78 "Requires the lock ... and `CFGV`"). Safe. -/
  | selectWithoutBus
  /-- XFER without the lock, the configuration or the select (R80 "Requires"). Safe. -/
  | xferWithoutBus
  /-- REL without the lock or with the select of the bus's device low (R82 "Requires", log 15). Safe. -/
  | releaseNotAllowed
  /-- An operand outside the range its rule gives: WAIT 0 (R79), a BURST of no byte or of a device that is not on the
  bus (R83), a load of more than 8 bytes (R61). Safe. -/
  | badOperand
  /-- RUN anywhere but in P_IDLE (R18: the entry point is P_IDLE's). Safe. -/
  | runNotIdle
  /-- A step in P_STOPPED: "That state is final: it has no step" (R117). Safe. -/
  | stopped
  /-- A step in P_FAILED: it "also has no step" (R117, R143). Safe. -/
  | failed
deriving DecidableEq, Repr

/-- Why there is no meaning. -/
inductive Refusal where
  /-- An instruction without a meaning yet, raised by `exec` alone. Safe. -/
  | notModelled (mnemonic : String)
  /-- The phase register holds no row's word (R17), raised by `step`. Safe. -/
  | illegalPhase (e : DecodeError)
  /-- An encoded operation placed from outside is no row's word (log 10), raised by `step`. Safe. -/
  | illegalWord (nbits w : Nat)
deriving DecidableEq, Repr

/-- The outcome of an operation or of a step. -/
abbrev Result := Host.Outcome State Fault Refusal

/-- No draw listed: every draw is free. -/
def Env.open : Env :=
  { start := [], fault := [], grantA := [], grantB := [], rx := [], clock := [], stop := [], store := [], count := 0,
    askedA := 0, askedB := 0 }

/-- The state after reset (R31). MUXSEL is a DESIGN CHOICE (log 5); the model's own fields are empty (log 6). -/
def State.reset : State :=
  { x := Vector.replicate 23 none, ts := none, now := none, pc := 0, lastStore := none, lastTx := none,
    canst := .uninitialized, muxsel := 0, adcCsn := true, canCsn := true, heldA := false, heldB := false,
    cfgvA := false, cfgvB := false, pay := Vector.replicate 46 none, payLive := false, fault := none,
    refused := false, trace := [],
    agenda := [], rx := [], ret := .nothing, lastClk := none, waited := 0, canRegs := [], txb0 := [],
    env := Env.open, params := Config.params }

end Sys2Proof.Machine
end

