-- ==== Sys2Proof/Machine/Flags.lean ====
section
/-! DEFINITION. The block has no flag register and no condition codes (R19). What stands in their place is two
comparator outputs, computed and consumed inside one phase each. -/

namespace Sys2Proof.Machine

/-- `store_due = (NOW - LAST_STORE >= STORE_PERIOD)` (R19). -/
def storeDue (now lastStore : Nat) : Bool := Config.storePeriod ≤ now - lastStore

/-- `tx_due = (NOW - LAST_TX >= TX_PERIOD)` (R19). -/
def txDue (now lastTx : Nat) : Bool := Config.txPeriod ≤ now - lastTx

end Sys2Proof.Machine
end

