-- ==== Sys2Proof/Machine/Operands.lean ====
section
/-! DEFINITION. Operand assembly: what the operations read and the bytes they send (30_encoding.md, 44_frame_splitting.md). -/

namespace Sys2Proof.Machine

/-- All of a list of possibly unwritten registers, or none if one is unwritten (R15, U11). -/
def allWritten {α : Type} : List (Option α) → Option (List α)
  | [] => some []
  | none :: _ => none
  | some a :: rest => (allWritten rest).map (a :: ·)

/-- The reading frame `x[0..22]` in ascending logical index (R113). -/
def State.frame (s : State) : Option (List Reading) := allWritten s.x.toList

/-- PACK's byte `j`: `PAY[2i] = x[i] >> 8`, `PAY[2i+1] = x[i] & 0xFF` (R123, R65). -/
def packByte (x : Vector (Option Reading) 23) (j : Fin 46) : Option Byte :=
  (x[j.val / 2]).map fun v => if j.val % 2 = 0 then readingHigh v else readingLow v

/-- The 46 bytes PACK writes (R123). -/
def packed (x : Vector (Option Reading) 23) : Vector (Option Byte) 46 := Vector.ofFn (packByte x)

/-- PAY as it is read: the bytes from a PACK to the end of the SEND_READINGS that called it, no value elsewhere (R26). -/
def State.payload (s : State) : Vector (Option Byte) 46 := if s.payLive then s.pay else Vector.replicate 46 none

/-- SPLIT k: `PAY[8k .. min(8k+7, 45)]` (R124). -/
def chunk (pay : Vector (Option Byte) 46) (k : Nat) : Option (List Byte) :=
  allWritten ((pay.toList.drop (8 * k)).take (min (8 * k + 7) 45 + 1 - 8 * k))

/-- The identifier of chunk k, `0x100 + k` (R66, R125). -/
def chunkId (k : Nat) : BitVec 16 := BitVec.ofNat 16 (Config.canBaseId + k)

/-- The bytes of an ADC transaction (R56). -/
def adcBytes (p : Config.Params) (a : BitVec 3) : List Byte := [adcCommandByte a, p.adcFill]

/-- The bytes of a register write (R60). -/
def writeBytes (p : Config.Params) (a v : Byte) : List Byte := [p.opWrite, a, v]

/-- The address and value of the write of index k, W1 to W5 (R97). -/
def cfgOperands (p : Config.Params) : Fin 5 → Byte × Byte
  | 0 => (p.regCtrl, p.modeConfig)
  | 1 => (p.regCnf3, p.cnf3Val)
  | 2 => (p.regCnf2, p.cnf2Val)
  | 3 => (p.regCnf1, p.cnf1Val)
  | 4 => (p.regCtrl, p.modeNormal)

end Sys2Proof.Machine
end

