-- ==== Sys2Proof/Machine/Ops.lean ====
section
/-! DEFINITION. The named operations every meaning is built from: memory, draws, registers, the silent actions, taking
a loop fault (60_exceptions.md R139), the event boundary (R138), and the seven primitives and the burst of
40_spi_transaction.md. -/

namespace Sys2Proof.Machine

/-! ### Memory: the CAN controller's address spaces as the block wrote them (20_memory.md R35, log 17) -/

/-- The canonical form: addresses strictly rising. An unlisted address holds no value, so no entry can equal it. -/
abbrev Mem.wf (m : Mem) : Prop := (m.map Prod.fst).Pairwise (· < ·)

/-- The byte at an address, none where nothing has been written. -/
def Mem.get : Mem → Nat → Option Byte
  | [], _ => none
  | (b, v) :: rest, a => if a = b then some v else Mem.get rest a

/-- A byte written at an address, in place. -/
def Mem.set : Mem → Nat → Byte → Mem
  | [], a, v => [(a, v)]
  | (b, u) :: rest, a, v =>
    if a < b then (a, v) :: (b, u) :: rest
    else if a = b then (a, v) :: rest
    else (b, u) :: Mem.set rest a v

/-- Bytes written from an address upwards. -/
def Mem.setList (m : Mem) (a : Nat) : List Byte → Mem
  | [] => m
  | v :: rest => Mem.setList (m.set a v) (a + 1) rest

/-! ### Draws (00_scope.md R10) -/

/-- The next draw of an input: the head of its list, or the free value. -/
def draw {α : Type} (l : List α) (free : α) : α :=
  match l with
  | a :: _ => a
  | [] => free

/-- Is RUN started now? -/
def State.startIn (s : State) : Bool := draw s.env.start (Config.startDraw s.env.count)
/-- Is a condition signalled at this boundary? -/
def State.faultIn (s : State) : Option Nat := draw s.env.fault (Config.faultDraw s.env.count)
/-- Is the lock of a bus free for the block now, as far as other users go? -/
def State.grantIn (s : State) : Bus → Bool
  | .busA => draw s.env.grantA (Config.grantDraw .busA s.env.askedA)
  | .busB => draw s.env.grantB (Config.grantDraw .busB s.env.askedB)
/-- What the selected device answers. -/
def State.rxIn (s : State) : Byte := draw s.env.rx (Config.rxDraw s.env.count)
/-- The level of the stop signal. -/
def State.stopIn (s : State) : Bool := draw s.env.stop (Config.stopDraw s.env.count)
/-- What the sink answers. -/
def State.storeIn (s : State) : Config.StoreResult := draw s.env.store (Config.storeDraw s.env.count)

/-- The least value the clock may return (R110): the last value returned (law 1) plus the waits since (law 2). -/
def State.clockFloor (s : State) : Nat :=
  match s.lastClk with
  | none => 0
  | some t => t + s.waited

/-- The value the clock returns now: any value from the least one on. -/
def State.clockIn (s : State) : Nat := s.clockFloor + draw s.env.clock (Config.clockDraw s.env.count)

/-- The start draw is used up. -/
def State.usedStart (s : State) : State :=
  { s with env := { s.env with start := s.env.start.tail, count := s.env.count + 1 } }
/-- The fault draw is used up. -/
def State.usedFault (s : State) : State :=
  { s with env := { s.env with fault := s.env.fault.tail, count := s.env.count + 1 } }
/-- The grant draw of a bus is used up. -/
def State.usedGrant (s : State) : Bus → State
  | .busA => { s with env := { s.env with grantA := s.env.grantA.tail, count := s.env.count + 1, askedA := s.env.askedA + 1 } }
  | .busB => { s with env := { s.env with grantB := s.env.grantB.tail, count := s.env.count + 1, askedB := s.env.askedB + 1 } }
/-- The received byte is used up. -/
def State.usedRx (s : State) : State :=
  { s with env := { s.env with rx := s.env.rx.tail, count := s.env.count + 1 } }
/-- The stop draw is used up. -/
def State.usedStop (s : State) : State :=
  { s with env := { s.env with stop := s.env.stop.tail, count := s.env.count + 1 } }
/-- The sink's answer is used up. -/
def State.usedStore (s : State) : State :=
  { s with env := { s.env with store := s.env.store.tail, count := s.env.count + 1 } }
/-- The clock has been read and returned `clockIn`; the waits are counted anew (R110). -/
def State.usedClock (s : State) : State :=
  { s with env := { s.env with clock := s.env.clock.tail, count := s.env.count + 1 },
           lastClk := some s.clockIn, waited := 0 }

/-! ### Registers -/

/-- `HELD_b` (R24). -/
def State.held (s : State) : Bus → Bool
  | .busA => s.heldA
  | .busB => s.heldB
/-- `HELD_b <- v`. -/
def State.setHeld (s : State) (v : Bool) : Bus → State
  | .busA => { s with heldA := v }
  | .busB => { s with heldB := v }
/-- `CFGV_b` (R25). -/
def State.cfgv (s : State) : Bus → Bool
  | .busA => s.cfgvA
  | .busB => s.cfgvB
/-- `CFGV_b <- v`. -/
def State.setCfgv (s : State) (v : Bool) : Bus → State
  | .busA => { s with cfgvA := v }
  | .busB => { s with cfgvB := v }
/-- The chip-select of a device, true is high (R23). -/
def State.csn (s : State) : Device → Bool
  | .adc => s.adcCsn
  | .can => s.canCsn
/-- The chip-select of a device driven to a level. -/
def State.setCsn (s : State) (v : Bool) : Device → State
  | .adc => { s with adcCsn := v }
  | .can => { s with canCsn := v }
/-- `pc <- (p, k)` (R8). -/
def State.setPc (s : State) (p : Phase) (k : Nat) : State := { s with pc := pcWord p k }
/-- What is done next, before what is in progress. -/
def State.push (s : State) (l : List Frame) : State := { s with agenda := l ++ s.agenda }
/-- An event is appended to the trace (R33). -/
def State.emit (s : State) (e : Event) : State := { s with trace := s.trace ++ [e] }
/-- The clock rate and mode a bus is configured with (R77). -/
def State.busConfig (s : State) : Bus → Nat × BitVec 2
  | .busA => (s.params.spiAHz, Config.spiModeA)
  | .busB => (s.params.spiBHz, s.params.spiModeB)

/-! ### Silent actions -/

/-- One silent action. -/
def doAct (s : State) : Act → State
  | .answer =>
    match s.rx with
    | [b0, b1] => { s with ret := .reading (readingOf b0 b1) }
    | _ => s
  | .writeX i =>
    match s.ret with
    | .reading v => { s with x := s.x.set i (some v) }
    | _ => s
  | .setPc w => { s with pc := w }
  | .setCanst c => { s with canst := c }
  | .noteReg a v => { s with canRegs := s.canRegs.set a.toNat v }
  | .noteTx bytes => { s with txb0 := s.txb0.setList 0 bytes }
  | .sent => { s with ret := .ok }
  | .lastTx => { s with lastTx := s.now }
  | .dropPay => { s with payLive := false }

/-- The silent actions that stand first in a list of frames are done, in order; the rest is what is in progress. -/
def settle : List Frame → State → State
  | .act a :: rest, s => settle rest (doAct s a)
  | rest, s => { s with agenda := rest }

/-- An operation, or its last event, is done: the silent actions that follow it are done with it, so that a step is one
event "together with the state change its rule gives" (R6). -/
def done (s : State) : Result := .next (settle s.agenda s)

/-- One event, and what follows it silently. -/
def event (s : State) (e : Event) : Result := done (s.emit e)

/-! ### Taking a loop fault, and its end -/

/-- The pins, locks and select lines become unspecified: free values (R139, U9, log 7). -/
def State.loosePins (s : State) : State :=
  let f := Config.pinsAfterFault s.env.count
  { s with muxsel := f.muxsel, adcCsn := f.adcCsn, canCsn := f.canCsn, heldA := f.heldA, heldB := f.heldB,
           env := { s.env with count := s.env.count + 1 } }

/-- TAKING A LOOP FAULT (R139): FAULT with its cause; the operation in progress is abandoned; pc at P_SHUTDOWN; what is
left to do is `Log(c)`, then the phase's own `Unmount()`. "Nothing is saved". -/
def takeLoopFault (c : Cause) (s : State) : State :=
  { s.loosePins with fault := some c, pc := pcWord .shutdown 0, agenda := [.log c] }

/-- A condition during `Log` or `Unmount` "ends the run at once in pc = (P_FAILED, 0) with FAULT set" (R141). FAULT keeps
the first cause where one is recorded (R32: never cleared). -/
def endFailed (c : Cause) (s : State) : State :=
  { s.loosePins with fault := some (s.fault.getD c), pc := pcWord .failed 0, agenda := [] }

/-- Where a condition may be signalled, and which path it takes. -/
inductive Window where
  /-- P_CAN_RESET to P_SLEEP: the fault path (R138) -/
  | running
  /-- P_SHUTDOWN: the run ends (R141) -/
  | shutdown
  /-- elsewhere: none is signalled (R138) -/
  | outside
deriving DecidableEq, Repr

/-- The window of a phase (R138, R141). -/
def windowOf : Option Phase → Window
  | some .canReset | some .canCfg | some .schedInit | some .stopCheck | some .sample | some .clock | some .store
  | some .tx | some .sleep => .running
  | some .shutdown => .shutdown
  | some .idle | some .stopped | some .failed | none => .outside

/-- The window the machine is in. -/
def State.window (s : State) : Window := windowOf (pcPhase s.pc)

/-- The event boundary before an event (R138, R142 (1)): a condition signalled there is taken before the event. -/
def atBoundary (s : State) (k : State → Result) : Result :=
  match s.window with
  | .outside => k s
  | .running =>
    match s.faultIn with
    | some c => .next (takeLoopFault (.signalled c) s.usedFault)
    | none => k s.usedFault
  | .shutdown =>
    match s.faultIn with
    | some c => .next (endFailed (.signalled c) s.usedFault)
    | none => k s.usedFault

/-! ### The seven primitives (R76 to R82) and MUX_SET (R85) -/

/-- `Acquire(b)` (R76): "hold until the lock of bus b is free", without an event; then HELD, CFGV cleared, ACQ. The lock
is not free while the block itself holds it. -/
def opAcquire (bus : Bus) (s : State) : Result :=
  atBoundary s fun s =>
    if s.grantIn bus && !s.held bus then
      event { ((s.usedGrant bus).setHeld true bus).setCfgv false bus with rx := [] } (.acq bus)
    else .next ((s.usedGrant bus).push [.op (.acq bus)])

/-- `Configure(b)` (R77). -/
def opConfigure (bus : Bus) (s : State) : Result :=
  if s.held bus then
    atBoundary s fun s => event (s.setCfgv true bus) (.cfg bus (s.busConfig bus).1 (s.busConfig bus).2)
  else .fault .cfgWithoutLock

/-- `CsLow(d)` (R78). What the two selects were is not looked at, though R78 says that the block never asserts one while it or
the other is asserted (DESIGN CHOICE, log 15). -/
def opCsLow (d : Device) (s : State) : Result :=
  if s.held d.bus && s.cfgv d.bus then
    atBoundary s fun s => event (s.setCsn false d) (.csl d)
  else .fault .selectWithoutBus

/-- `Wait(t)` (R79): the event is kept and the hold dropped; the clock sees it (R110, law 2). -/
def opWait (t : Nat) (s : State) : Result :=
  if 0 < t then
    atBoundary s fun s => event { s with waited := s.waited + t } (.wait t)
  else .fault .badOperand

/-- `Xfer(b, tx) -> rx` (R80): `rx` is a draw. Of "the select of exactly one device of bus b asserted", "nor with both", the
select of the one device of bus b is tested, and the other bus's select is not looked at (DESIGN CHOICE, log 15). "return rx":
the byte joins those in `rx`, and `ret` keeps what an earlier operation returned (DESIGN CHOICE, log 6). -/
def opXfer (bus : Bus) (tx : Byte) (s : State) : Result :=
  if s.held bus && s.cfgv bus && !s.csn bus.device then
    atBoundary s fun s => event { s.usedRx with rx := s.rx ++ [s.rxIn] } (.xfer bus tx s.rxIn)
  else .fault .xferWithoutBus

/-- `CsHigh(d)` (R81), which asks for nothing. -/
def opCsHigh (d : Device) (s : State) : Result :=
  atBoundary s fun s => event (s.setCsn true d) (.csh d)

/-- `Release(b)` (R82). "both selects of bus b's devices high": a bus has one selected device (R83, R148), so the select of
that device is the one tested (DESIGN CHOICE, log 15). -/
def opRelease (bus : Bus) (s : State) : Result :=
  if s.held bus && s.csn bus.device then
    atBoundary s fun s => event (s.setHeld false bus) (.rel bus)
  else .fault .releaseNotAllowed

/-- `SetMux(s)` (R85): all four lines in one event. -/
def opSetMux (sel : BitVec 4) (s : State) : Result :=
  atBoundary s fun s => event { s with muxsel := sel } (.mux sel)

/-! ### The burst (R83) -/

/-- A burst after its `Acquire`: configure, assert, setup wait if any, the exchanges, deassert, release. -/
def burstTail (bus : Bus) (d : Device) (setup : Nat) (tx : List Byte) : List Frame :=
  [.op (.cfg bus), .op (.csl d)] ++ (if 0 < setup then [.op (.wait setup)] else [])
    ++ tx.map (fun b => .op (.xfer bus b)) ++ [.op (.csh d), .op (.rel bus)]

/-- `Burst(b, d, setup, tx)` (R83): `Acquire(b)`, and the rest in progress. "return rx[0..n-1]": the bytes are in `rx`, and `ret`
keeps what an earlier operation returned (DESIGN CHOICE, log 6). -/
def opBurst (bus : Bus) (d : Device) (setup : Nat) (tx : List Byte) (s : State) : Result :=
  opAcquire bus (s.push (burstTail bus d setup tx))

/-! ### Composite operations shared by several instructions -/

/-- The burst of an ADC command (R86), and what follows it. -/
def opAdcBurst (bytes : List Byte) (after : List Frame) (s : State) : Result :=
  opBurst .busA .adc Config.tCsSetup bytes (s.push after)

/-- A burst to the CAN controller, which has no setup wait (R83, D7), and what follows it. -/
def opCanBurst (bytes : List Byte) (after : List Frame) (s : State) : Result :=
  opBurst .busB .can 0 bytes (s.push after)

/-- `ReadAdc(a)` (R86), and what follows it. -/
def opReadAdc (a : BitVec 3) (after : List Frame) (s : State) : Result :=
  opAdcBurst (adcBytes s.params a) (.act .answer :: after) s

/-- Where pc goes when write k of P_CAN_CFG is done (R18). -/
def nextCfg (k : Nat) : BitVec 9 := if k < 4 then pcWord .canCfg (k + 1) else pcWord .schedInit 0

/-- Where pc goes when channel k of P_SAMPLE is read (R18). -/
def nextSample (k : Nat) : BitVec 9 := if k < 22 then pcWord .sample (k + 1) else pcWord .clock 0

/-- Where pc goes when chunk k of P_TX is sent (R18). -/
def nextTx (k : Nat) : BitVec 9 := if k < 5 then pcWord .tx (k + 1) else pcWord .sleep 0

/-- `CanWrite(a, v)` (R96), and what follows it. The record of R27 gets the write when its burst is done (DESIGN CHOICE, log 17):
a write cut off before that leaves no record. -/
def opCanWrite (a v : Byte) (after : List Frame) (s : State) : Result :=
  opCanBurst (writeBytes s.params a v) (.act (.noteReg a v) :: after) s

/-- The load burst of R101, or the two bursts where TX_LOAD_SPLIT is true, and what follows. The record of R27 and R28 gets the
load when its last burst is done (DESIGN CHOICE, log 17): a load cut off before that leaves no record. -/
def opLoadTx0 (id : BitVec 11) (data : List Byte) (after : List Frame) (s : State) : Result :=
  let bytes := loadHeader id data.length ++ data
  if s.params.txLoadSplit then
    opCanBurst [s.params.opLoadTx0] (.op (.burst .busB .can 0 bytes) :: .act (.noteTx bytes) :: after) s
  else opCanBurst (s.params.opLoadTx0 :: bytes) (.act (.noteTx bytes) :: after) s

/-- A refused operation (R11, R106): the mark is set, no event is emitted, the operation in progress goes no further, and
no value is returned: `ret` holds none, whatever it held before (DESIGN CHOICE, log 8). -/
def refuse (s : State) : Result := .next { s with refused := true, ret := .nothing, agenda := [] }

/-- `SendFrame(id, data)` (R100 to R103), what follows it, and what a TxError does. -/
def opSendFrame (id : BitVec 16) (data : List Byte) (after : List Frame) (onError : TxError → State → Result)
    (s : State) : Result :=
  if s.canst ≠ .operational then refuse s
  else if Config.canIdMax < id.toNat then onError (.idOutOfRange id) s
  else if Config.canMaxLen < data.length then onError (.payloadTooLong data.length) s
  else opLoadTx0 (id.setWidth 11) data (.op .canRts0Cmd :: .act .sent :: after) s

/-! ### The reset port -/

/-- `reset` "puts every piece of state of 10_state.md rule R13 to the value of 10_state.md rule R31, from any state ... It
empties the trace" (R153). The parameters stay, and the environment goes on; it "does not reset the peripherals" (R154), so
the record of what has been written to the CAN controller stays (log 17). The last clock value and the waits since are
forgotten with the trace, so the laws of R110 do not reach across the port (DESIGN CHOICE, log 13). -/
def State.resetPort (s : State) : State :=
  { State.reset with params := s.params, env := s.env, canRegs := s.canRegs, txb0 := s.txb0 }

end Sys2Proof.Machine
end

