-- ==== Sys2Proof/Machine/CanDriver.lean ====
section
/-! DEFINITION. The CAN Link Driver (42_can_link_driver.md): its commands, reset, configuration, bring-up and SEND_FRAME. -/

namespace Sys2Proof.Machine

/-! ### The commands (R59 to R64). A command word is the burst that sends it (log 16). -/

/-- CAN_RESET_CMD (R59): the reset opcode alone. -/
def execCanResetCmd (s : State) : Result := opCanBurst [s.params.opReset] [] s

/-- CAN_WRITE_CMD (R60, R96): `[OP_WRITE, a, v]`. -/
def execCanWriteCmd (a v : Byte) (s : State) : Result := opCanWrite a v [] s

/-- CAN_WRITE_CMD W1 (R97): control register, configuration mode. -/
def execCanWriteCmdW1 (s : State) : Result := opCanWrite s.params.regCtrl s.params.modeConfig [] s

/-- CAN_WRITE_CMD W2 (R97): timing register CNF3; the value is the word's. -/
def execCanWriteCmdW2 (v : Byte) (s : State) : Result := opCanWrite s.params.regCnf3 v [] s

/-- CAN_WRITE_CMD W3 (R97): timing register CNF2; the value is the word's. -/
def execCanWriteCmdW3 (v : Byte) (s : State) : Result := opCanWrite s.params.regCnf2 v [] s

/-- CAN_WRITE_CMD W4 (R97): timing register CNF1; the value is the word's. -/
def execCanWriteCmdW4 (v : Byte) (s : State) : Result := opCanWrite s.params.regCnf1 v [] s

/-- CAN_WRITE_CMD W5 (R97): control register, normal mode. -/
def execCanWriteCmdW5 (s : State) : Result := opCanWrite s.params.regCtrl s.params.modeNormal [] s

/-- CAN_LOAD_TX0_CMD (R61, R101): opcode, header and data, in the bursts TX_LOAD_SPLIT asks for. -/
def execCanLoadTx0Cmd (id : BitVec 11) (data : List Byte) (s : State) : Result :=
  if (Instr.canLoadTx0Cmd id data).wellFormed then opLoadTx0 id data [] s else .fault .badOperand

/-- CAN_RTS0_CMD (R64, R102): the request-to-send opcode alone. -/
def execCanRts0Cmd (s : State) : Result := opCanBurst [s.params.opRts0] [] s

/-! ### Reset, configuration, bring-up -/

/-- `CanReset()` (R95): CANST Resetting, the reset burst, the 10 ms wait, CANST Configuring (R98), pc as R18. -/
def opCanReset (s : State) : Result :=
  opCanBurst [s.params.opReset]
    [.op (.wait Config.tCanReset), .act (.setCanst .configuring), .act (.setPc (pcWord .canCfg 0))]
    { s with canst := .resetting }

/-- CAN_RESET (R95). -/
def execCanReset (s : State) : Result := opCanReset s

/-- The write of index k of P_CAN_CFG (R97): `pc <- (P_CAN_CFG, k)`; the write; pc as R18. CANST is CAN_CONFIGURE's to write
(R20, R97): a step row run on its own leaves it, W5 too, after which R98 has it Operational (DESIGN CHOICE, log 28). -/
def opCfgWrite (k : Fin 5) (s : State) : Result :=
  opCanWrite (cfgOperands s.params k).1 (cfgOperands s.params k).2 [.act (.setPc (nextCfg k.val))]
    (s.setPc .canCfg k.val)

/-- CAN_WRITE REG_CTRL, MODE_CONFIG (R96, write W1 of R97). -/
def execCfgWrite1 (s : State) : Result := opCfgWrite 0 s

/-- CAN_WRITE REG_CNF3, CNF3_VAL (R96, write W2 of R97). -/
def execCfgWrite2 (s : State) : Result := opCfgWrite 1 s

/-- CAN_WRITE REG_CNF2, CNF2_VAL (R96, write W3 of R97). -/
def execCfgWrite3 (s : State) : Result := opCfgWrite 2 s

/-- CAN_WRITE REG_CNF1, CNF1_VAL (R96, write W4 of R97). -/
def execCfgWrite4 (s : State) : Result := opCfgWrite 3 s

/-- CAN_WRITE REG_CTRL, MODE_NORMAL (R96, write W5 of R97). -/
def execCfgWrite5 (s : State) : Result := opCfgWrite 4 s

/-- CAN_CONFIGURE (R97): CANST Configuring, the five writes in order, CANST Operational after the last (R98). -/
def execCanConfigure (s : State) : Result :=
  opCfgWrite 0
    ({ s with canst := .configuring }.push (cfgRows.tail.map Frame.op ++ [Frame.act (.setCanst .operational)]))

/-- CAN_INIT (R99): `pc <- (P_CAN_RESET, 0)`; CAN_RESET; CAN_CONFIGURE. -/
def execCanInit (s : State) : Result := opCanReset ((s.setPc .canReset 0).push [.op .canConfigure])

/-! ### SEND_FRAME -/

/-- SEND_FRAME id, bytes (R100 to R103, R106). A TxError is returned to the caller (R132). -/
def execSendFrame (id : BitVec 16) (data : List Byte) (s : State) : Result :=
  opSendFrame id data [] (fun e s => done { s with ret := .txError e }) s

end Sys2Proof.Machine
end

