-- ==== Sys2Proof/Machine/Sampler.lean ====
section
/-! DEFINITION. The Analog Sampler (41_analog_sampler.md): the ADC words, READ_ADC, the 23 reads and SAMPLE_ALL. -/

namespace Sys2Proof.Machine

/-! ### The words (R55 to R58). A command word is the burst that sends it (log 16). -/

/-- ADC_CMD (R55, R56, R86): the two bytes in one ADC burst. -/
def execAdcCmd (a : BitVec 3) (f : Byte) (s : State) : Result := opAdcBurst [adcCommandByte a, f] [] s

/-- ADC_CMD with input 0 (R87): every multiplexed channel. -/
def execAdcCmdA0 (f : Byte) (s : State) : Result := opAdcBurst [adcCommandByte 0, f] [] s

/-- ADC_CMD with input 1 (R87): logical channel 0. -/
def execAdcCmdA1 (f : Byte) (s : State) : Result := opAdcBurst [adcCommandByte 1, f] [] s

/-- ADC_CMD with input 2 (R87): logical channel 1. -/
def execAdcCmdA2 (f : Byte) (s : State) : Result := opAdcBurst [adcCommandByte 2, f] [] s

/-- ADC_CMD with input 3 (R87): logical channel 2. -/
def execAdcCmdA3 (f : Byte) (s : State) : Result := opAdcBurst [adcCommandByte 3, f] [] s

/-- ADC_CMD with input 4 (R87): logical channel 3. -/
def execAdcCmdA4 (f : Byte) (s : State) : Result := opAdcBurst [adcCommandByte 4, f] [] s

/-- ADC_CMD with input 5 (R87): logical channel 4. -/
def execAdcCmdA5 (f : Byte) (s : State) : Result := opAdcBurst [adcCommandByte 5, f] [] s

/-- ADC_CMD with input 6 (R87): logical channel 5. -/
def execAdcCmdA6 (f : Byte) (s : State) : Result := opAdcBurst [adcCommandByte 6, f] [] s

/-- ADC_CMD with input 7 (R87): logical channel 6. -/
def execAdcCmdA7 (f : Byte) (s : State) : Result := opAdcBurst [adcCommandByte 7, f] [] s

/-- ADC_ANSWER (R57): the two bytes in, and the reading decoded from them; the high four bits are ignored. -/
def execAdcAnswer (hi : BitVec 4) (v : Reading) (s : State) : Result :=
  let b0 : Byte := (hi.setWidth 8 <<< 4) ||| readingHigh v
  let b1 : Byte := readingLow v
  done { s with rx := [b0, b1], ret := .reading (readingOf b0 b1) }

/-- MUX_PATTERN (R58): the pattern driven on the select lines. -/
def execMuxPattern (sel : BitVec 4) (s : State) : Result := opSetMux sel s

/-! ### READ_ADC and the reads -/

/-- READ_ADC a (R86): the burst, then the decoded reading is returned. -/
def execReadAdc (a : BitVec 3) (s : State) : Result := opReadAdc a [] s

/-- READ_DIRECT i (R88), with the phase register of R90: `pc <- (P_SAMPLE, i)`; `x[i] <- ReadAdc(i + 1)`; pc as R18. -/
def opReadDirect (i : Fin 7) (s : State) : Result :=
  opReadAdc (BitVec.ofNat 3 (i.val + 1)) [.act (.writeX (i.castLE (by decide))), .act (.setPc (nextSample i.val))]
    (s.setPc .sample i.val)

/-- READ_MUXED of sub-channel j, logical channel i = j + 7 (R89, R87), with the phase register of R90: `SetMux(i - 7)`;
`Wait(T_MUX_SETTLE)`; `x[i] <- ReadAdc(0)`; pc as R18. -/
def opReadMuxed (j : Fin 16) (s : State) : Result :=
  opSetMux (BitVec.ofNat 4 j.val)
    ((s.setPc .sample (j.val + 7)).push
      [.op (.wait Config.tMuxSettle), .op (.readAdc Config.muxAdcInput),
       .act (.writeX ⟨j.val + 7, by omega⟩), .act (.setPc (nextSample (j.val + 7)))])

/-- READ_DIRECT 0 (R88): ADC input 1. -/
def execReadDirect0 (s : State) : Result := opReadDirect 0 s

/-- READ_DIRECT 1 (R88): ADC input 2. -/
def execReadDirect1 (s : State) : Result := opReadDirect 1 s

/-- READ_DIRECT 2 (R88): ADC input 3. -/
def execReadDirect2 (s : State) : Result := opReadDirect 2 s

/-- READ_DIRECT 3 (R88): ADC input 4. -/
def execReadDirect3 (s : State) : Result := opReadDirect 3 s

/-- READ_DIRECT 4 (R88): ADC input 5. -/
def execReadDirect4 (s : State) : Result := opReadDirect 4 s

/-- READ_DIRECT 5 (R88): ADC input 6. -/
def execReadDirect5 (s : State) : Result := opReadDirect 5 s

/-- READ_DIRECT 6 (R88): ADC input 7. -/
def execReadDirect6 (s : State) : Result := opReadDirect 6 s

/-- READ_MUXED 7 (R89): sub-channel 0. -/
def execReadMuxed7 (s : State) : Result := opReadMuxed 0 s

/-- READ_MUXED 8 (R89): sub-channel 1. -/
def execReadMuxed8 (s : State) : Result := opReadMuxed 1 s

/-- READ_MUXED 9 (R89): sub-channel 2. -/
def execReadMuxed9 (s : State) : Result := opReadMuxed 2 s

/-- READ_MUXED 10 (R89): sub-channel 3. -/
def execReadMuxed10 (s : State) : Result := opReadMuxed 3 s

/-- READ_MUXED 11 (R89): sub-channel 4. -/
def execReadMuxed11 (s : State) : Result := opReadMuxed 4 s

/-- READ_MUXED 12 (R89): sub-channel 5. -/
def execReadMuxed12 (s : State) : Result := opReadMuxed 5 s

/-- READ_MUXED 13 (R89): sub-channel 6. -/
def execReadMuxed13 (s : State) : Result := opReadMuxed 6 s

/-- READ_MUXED 14 (R89): sub-channel 7. -/
def execReadMuxed14 (s : State) : Result := opReadMuxed 7 s

/-- READ_MUXED 15 (R89): sub-channel 8. -/
def execReadMuxed15 (s : State) : Result := opReadMuxed 8 s

/-- READ_MUXED 16 (R89): sub-channel 9. -/
def execReadMuxed16 (s : State) : Result := opReadMuxed 9 s

/-- READ_MUXED 17 (R89): sub-channel 10. -/
def execReadMuxed17 (s : State) : Result := opReadMuxed 10 s

/-- READ_MUXED 18 (R89): sub-channel 11. -/
def execReadMuxed18 (s : State) : Result := opReadMuxed 11 s

/-- READ_MUXED 19 (R89): sub-channel 12. -/
def execReadMuxed19 (s : State) : Result := opReadMuxed 12 s

/-- READ_MUXED 20 (R89): sub-channel 13. -/
def execReadMuxed20 (s : State) : Result := opReadMuxed 13 s

/-- READ_MUXED 21 (R89): sub-channel 14. -/
def execReadMuxed21 (s : State) : Result := opReadMuxed 14 s

/-- READ_MUXED 22 (R89): sub-channel 15. -/
def execReadMuxed22 (s : State) : Result := opReadMuxed 15 s

/-- SAMPLE_ALL (R90): all 23 registers are marked unwritten, then the 23 reads run in ascending logical index. -/
def execSampleAll (s : State) : Result :=
  opReadDirect 0 ({ s with x := Vector.replicate 23 none }.push (sampleRows.tail.map Frame.op))

end Sys2Proof.Machine
end

