-- ==== Sys2Proof/Machine/Splitting.lean ====
section
/-! DEFINITION. Frame splitting for transmission (44_frame_splitting.md): RD16, PACK, SPLIT, the six chunks, SEND_READINGS. -/

namespace Sys2Proof.Machine

/-- RD16_WORD (R65): one reading packed, its two bytes returned (log 16). -/
def execRd16Word (v : Reading) (s : State) : Result := done { s with ret := .bytes [readingHigh v, readingLow v] }

/-- PACK (R123): PAY, which holds a value from here on (R26), from the 23 readings; an unwritten reading is a fault of the model (R15). -/
def execPack (s : State) : Result :=
  match s.frame with
  | none => .fault .unwritten
  | some _ => done { s with pay := packed s.x, payLive := true }

/-- SPLIT k (R124): the bytes of chunk k are returned; an unwritten byte is a fault of the model (U11). -/
def execSplit (k : Fin 6) (s : State) : Result :=
  match chunk s.payload k.val with
  | none => .fault .unwritten
  | some l => done { s with ret := .bytes l }

/-- The wait after chunk k (R126): after every chunk but the last, and after the last where IFD_AFTER_LAST is true. -/
def interframe (p : Config.Params) (k : Nat) : List Frame :=
  if k < 5 ∨ p.ifdAfterLast then [.op (.wait Config.tInterframe)] else []

/-- Chunk k of SEND_READINGS (R126): `pc <- (P_TX, k)`; `SendFrame(0x100 + k, Split(k))`; the wait; pc as R18. A TxError
would take the fault path (R132, D34). CANST is checked "before anything else" (R100), so before PAY is read. -/
def opChunk (k : Fin 6) (s : State) : Result :=
  if s.canst ≠ .operational then refuse (s.setPc .tx k.val)
  else
    match chunk s.payload k.val with
    | none => .fault .unwritten
    | some l =>
      opSendFrame (chunkId k.val) l (interframe s.params k.val ++ [.act (.setPc (nextTx k.val))])
        (fun e s => .next (takeLoopFault (.txError e) s)) (s.setPc .tx k.val)

/-- SEND_FRAME 0x100, SPLIT 0 (R126). -/
def execSendChunk0 (s : State) : Result := opChunk 0 s

/-- SEND_FRAME 0x101, SPLIT 1 (R126). -/
def execSendChunk1 (s : State) : Result := opChunk 1 s

/-- SEND_FRAME 0x102, SPLIT 2 (R126). -/
def execSendChunk2 (s : State) : Result := opChunk 2 s

/-- SEND_FRAME 0x103, SPLIT 3 (R126). -/
def execSendChunk3 (s : State) : Result := opChunk 3 s

/-- SEND_FRAME 0x104, SPLIT 4 (R126). -/
def execSendChunk4 (s : State) : Result := opChunk 4 s

/-- SEND_FRAME 0x105, SPLIT 5 (R126). -/
def execSendChunk5 (s : State) : Result := opChunk 5 s

/-- `SendReadings()` (R126): PACK once, then the six chunks in order; with its end PAY holds no value (R26); then what
follows. -/
def opSendReadings (after : List Frame) (s : State) : Result :=
  match s.frame with
  | none => .fault .unwritten
  | some _ => opChunk 0
      ({ s with pay := packed s.x, payLive := true }.push (chunkRows.tail.map Frame.op ++ Frame.act .dropPay :: after))

/-- SEND_READINGS (R126). -/
def execSendReadings (s : State) : Result := opSendReadings [] s

end Sys2Proof.Machine
end

