-- ==== Sys2Proof/Machine/Scheduler.lean ====
section
/-! DEFINITION. The Cyclic Scheduler (43_cyclic_scheduler.md): the phases, RUN, the stop path and the end of the fault path. -/

namespace Sys2Proof.Machine

/-- RUN (R108): the entry point of P_IDLE, pc to (P_CAN_RESET, 0) (R18); the phases then follow one another by pc. -/
def execRun (s : State) : Result :=
  if s.pc = pcWord .idle 0 then done (s.setPc .canReset 0) else .fault .runNotIdle

/-- P_IDLE (R17, R155): nothing is done until RUN is started from outside. -/
def execPIdle (s : State) : Result :=
  .next { s.usedStart with pc := if s.startIn then pcWord .canReset 0 else s.pc }

/-- SCHED_INIT (R109): one clock read, to both registers. -/
def execSchedInit (s : State) : Result :=
  atBoundary s fun s =>
    let t := s.clockIn
    event { s.usedClock with lastStore := some t, lastTx := some t, pc := pcWord .stopCheck 0 } (.clk t)

/-- STOP_CHECK (R111): the stop signal is sampled once; true goes to P_SHUTDOWN, false to P_SAMPLE (R18). -/
def execStopCheck (s : State) : Result :=
  atBoundary s fun s =>
    event { s.usedStop with pc := if s.stopIn then pcWord .shutdown 0 else pcWord .sample 0 } (.stopq s.stopIn)

/-- READ_CLOCK (R112): one clock read, to NOW and TS. -/
def execReadClock (s : State) : Result :=
  atBoundary s fun s =>
    let t := s.clockIn
    event { s.usedClock with now := some t, ts := some t, pc := pcWord .store 0 } (.clk t)

/-- STORE_IF_DUE (R113): where due, the sink is invoked with TS and the 23 readings, and LAST_STORE is NOW whatever it
answers; else nothing is emitted. -/
def execStoreIfDue (s : State) : Result :=
  match s.now, s.lastStore with
  | some n, some l =>
    if storeDue n l then
      match s.ts, s.frame with
      | some ts, some v =>
        atBoundary s fun s =>
          event { s.usedStore with lastStore := some n, pc := pcWord .tx 0 } (.store ts v s.storeIn)
      | _, _ => .fault .unwritten
    else done (s.setPc .tx 0)
  | _, _ => .fault .unwritten

/-- TX_IF_DUE (R114): where due, SEND_READINGS, then LAST_TX is NOW; else nothing is emitted. -/
def execTxIfDue (s : State) : Result :=
  match s.now, s.lastTx with
  | some n, some l => if txDue n l then opSendReadings [.act .lastTx] s else done (s.setPc .sleep 0)
  | _, _ => .fault .unwritten

/-- LOOP_SLEEP (R115): a plain wait, then the next iteration. -/
def execLoopSleep (s : State) : Result :=
  opWait Config.tLoopSleep (s.push [.act (.setPc (pcWord .stopCheck 0))])

/-- SHUTDOWN (R116): `Unmount()`; then P_STOPPED after a stop, P_FAILED after a loop fault (R18). -/
def execShutdown (s : State) : Result :=
  atBoundary s fun s =>
    event { s with pc := if s.fault.isSome then pcWord .failed 0 else pcWord .stopped 0 } .unmount

/-- P_STOPPED (R117): "That state is final: it has no step." -/
def execPStopped (_s : State) : Result := .fault .stopped

/-- P_FAILED (R117, R143): terminal, "also has no step". -/
def execPFailed (_s : State) : Result := .fault .failed

/-- `Log(c)` (R121, R139): what the fault path does first. -/
def opLog (c : Cause) (s : State) : Result := atBoundary s fun s => event s (.log c)

end Sys2Proof.Machine
end

