-- ==== Sys2Proof/Machine/Spi.lean ====
section
/-! DEFINITION. The meanings of the primitives and the burst (40_spi_transaction.md) and of MUX_SET (R85). -/

namespace Sys2Proof.Machine

/-- ACQ b (R76). -/
def execAcq (bus : Bus) (s : State) : Result := opAcquire bus s

/-- CFG b (R77). -/
def execCfg (bus : Bus) (s : State) : Result := opConfigure bus s

/-- CSL d (R78). -/
def execCsl (d : Device) (s : State) : Result := opCsLow d s

/-- WAIT t (R79). -/
def execWait (t : Nat) (s : State) : Result := opWait t s

/-- XFER b, tx (R80). -/
def execXfer (bus : Bus) (tx : Byte) (s : State) : Result := opXfer bus tx s

/-- CSH d (R81). -/
def execCsh (d : Device) (s : State) : Result := opCsHigh d s

/-- REL b (R82). -/
def execRel (bus : Bus) (s : State) : Result := opRelease bus s

/-- BURST b, d, setup, bytes (R83). It runs with the setup wait and the bytes it is given: a setup that is not the device's own
(1 for the ADC, 0 for the CAN controller, R83, R158) and bytes of no format of R54 are not refused, and a setup of 0 makes no
wait (DESIGN CHOICE, log 21). Its bytes are not read as a command: the record of R27 has the writes of CAN_WRITE and of the
loads alone (DESIGN CHOICE, log 17). -/
def execBurst (bus : Bus) (d : Device) (setup : Nat) (tx : List Byte) (s : State) : Result :=
  if (Instr.burst bus d setup tx).wellFormed then opBurst bus d setup tx s else .fault .badOperand

/-- MUX_SET s (R85). -/
def execMuxSet (sel : BitVec 4) (s : State) : Result := opSetMux sel s

end Sys2Proof.Machine
end

