-- ==== Sys2Proof/Machine/Dispatch.lean ====
section
/-! DEFINITION. One arm per row of spec/opcode_table.json: the meaning of each instruction. -/

namespace Sys2Proof.Machine

def exec (i : Instr) (s : State) : Host.Outcome State Fault Refusal :=
  match i with
  | .adcCmd a f => Sys2Proof.Machine.execAdcCmd a f s
  | .adcCmdA0 f => Sys2Proof.Machine.execAdcCmdA0 f s
  | .adcCmdA1 f => Sys2Proof.Machine.execAdcCmdA1 f s
  | .adcCmdA2 f => Sys2Proof.Machine.execAdcCmdA2 f s
  | .adcCmdA3 f => Sys2Proof.Machine.execAdcCmdA3 f s
  | .adcCmdA4 f => Sys2Proof.Machine.execAdcCmdA4 f s
  | .adcCmdA5 f => Sys2Proof.Machine.execAdcCmdA5 f s
  | .adcCmdA6 f => Sys2Proof.Machine.execAdcCmdA6 f s
  | .adcCmdA7 f => Sys2Proof.Machine.execAdcCmdA7 f s
  | .adcAnswer hi v => Sys2Proof.Machine.execAdcAnswer hi v s
  | .muxPattern sel => Sys2Proof.Machine.execMuxPattern sel s
  | .canResetCmd => Sys2Proof.Machine.execCanResetCmd s
  | .canWriteCmd a v => Sys2Proof.Machine.execCanWriteCmd a v s
  | .canWriteCmdW1 => Sys2Proof.Machine.execCanWriteCmdW1 s
  | .canWriteCmdW2 v => Sys2Proof.Machine.execCanWriteCmdW2 v s
  | .canWriteCmdW3 v => Sys2Proof.Machine.execCanWriteCmdW3 v s
  | .canWriteCmdW4 v => Sys2Proof.Machine.execCanWriteCmdW4 v s
  | .canWriteCmdW5 => Sys2Proof.Machine.execCanWriteCmdW5 s
  | .canLoadTx0Cmd id data => Sys2Proof.Machine.execCanLoadTx0Cmd id data s
  | .canRts0Cmd => Sys2Proof.Machine.execCanRts0Cmd s
  | .rd16Word v => Sys2Proof.Machine.execRd16Word v s
  | .pIdle => Sys2Proof.Machine.execPIdle s
  | .canReset => Sys2Proof.Machine.execCanReset s
  | .canConfigure => Sys2Proof.Machine.execCanConfigure s
  | .schedInit => Sys2Proof.Machine.execSchedInit s
  | .stopCheck => Sys2Proof.Machine.execStopCheck s
  | .sampleAll => Sys2Proof.Machine.execSampleAll s
  | .readClock => Sys2Proof.Machine.execReadClock s
  | .storeIfDue => Sys2Proof.Machine.execStoreIfDue s
  | .txIfDue => Sys2Proof.Machine.execTxIfDue s
  | .loopSleep => Sys2Proof.Machine.execLoopSleep s
  | .shutdown => Sys2Proof.Machine.execShutdown s
  | .pStopped => Sys2Proof.Machine.execPStopped s
  | .pFailed => Sys2Proof.Machine.execPFailed s
  | .cfgWrite1 => Sys2Proof.Machine.execCfgWrite1 s
  | .cfgWrite2 => Sys2Proof.Machine.execCfgWrite2 s
  | .cfgWrite3 => Sys2Proof.Machine.execCfgWrite3 s
  | .cfgWrite4 => Sys2Proof.Machine.execCfgWrite4 s
  | .cfgWrite5 => Sys2Proof.Machine.execCfgWrite5 s
  | .readDirect0 => Sys2Proof.Machine.execReadDirect0 s
  | .readDirect1 => Sys2Proof.Machine.execReadDirect1 s
  | .readDirect2 => Sys2Proof.Machine.execReadDirect2 s
  | .readDirect3 => Sys2Proof.Machine.execReadDirect3 s
  | .readDirect4 => Sys2Proof.Machine.execReadDirect4 s
  | .readDirect5 => Sys2Proof.Machine.execReadDirect5 s
  | .readDirect6 => Sys2Proof.Machine.execReadDirect6 s
  | .readMuxed7 => Sys2Proof.Machine.execReadMuxed7 s
  | .readMuxed8 => Sys2Proof.Machine.execReadMuxed8 s
  | .readMuxed9 => Sys2Proof.Machine.execReadMuxed9 s
  | .readMuxed10 => Sys2Proof.Machine.execReadMuxed10 s
  | .readMuxed11 => Sys2Proof.Machine.execReadMuxed11 s
  | .readMuxed12 => Sys2Proof.Machine.execReadMuxed12 s
  | .readMuxed13 => Sys2Proof.Machine.execReadMuxed13 s
  | .readMuxed14 => Sys2Proof.Machine.execReadMuxed14 s
  | .readMuxed15 => Sys2Proof.Machine.execReadMuxed15 s
  | .readMuxed16 => Sys2Proof.Machine.execReadMuxed16 s
  | .readMuxed17 => Sys2Proof.Machine.execReadMuxed17 s
  | .readMuxed18 => Sys2Proof.Machine.execReadMuxed18 s
  | .readMuxed19 => Sys2Proof.Machine.execReadMuxed19 s
  | .readMuxed20 => Sys2Proof.Machine.execReadMuxed20 s
  | .readMuxed21 => Sys2Proof.Machine.execReadMuxed21 s
  | .readMuxed22 => Sys2Proof.Machine.execReadMuxed22 s
  | .sendChunk0 => Sys2Proof.Machine.execSendChunk0 s
  | .sendChunk1 => Sys2Proof.Machine.execSendChunk1 s
  | .sendChunk2 => Sys2Proof.Machine.execSendChunk2 s
  | .sendChunk3 => Sys2Proof.Machine.execSendChunk3 s
  | .sendChunk4 => Sys2Proof.Machine.execSendChunk4 s
  | .sendChunk5 => Sys2Proof.Machine.execSendChunk5 s
  | .acq bus => Sys2Proof.Machine.execAcq bus s
  | .cfg bus => Sys2Proof.Machine.execCfg bus s
  | .csl d => Sys2Proof.Machine.execCsl d s
  | .wait t => Sys2Proof.Machine.execWait t s
  | .xfer bus tx => Sys2Proof.Machine.execXfer bus tx s
  | .csh d => Sys2Proof.Machine.execCsh d s
  | .rel bus => Sys2Proof.Machine.execRel bus s
  | .burst bus d setup tx => Sys2Proof.Machine.execBurst bus d setup tx s
  | .muxSet sel => Sys2Proof.Machine.execMuxSet sel s
  | .readAdc a => Sys2Proof.Machine.execReadAdc a s
  | .canInit => Sys2Proof.Machine.execCanInit s
  | .sendFrame id data => Sys2Proof.Machine.execSendFrame id data s
  | .pack => Sys2Proof.Machine.execPack s
  | .split k => Sys2Proof.Machine.execSplit k s
  | .sendReadings => Sys2Proof.Machine.execSendReadings s
  | .run => Sys2Proof.Machine.execRun s

end Sys2Proof.Machine
end

