-- ==== Sys2Proof/Machine/Step.lean ====
section
/-! DEFINITION. One step: at most one event and the state change its rule gives (00_scope.md R6). What is run is the
head of the operation in progress, or, where none is, what the phase register says (10_state.md R17, R18). -/

namespace Sys2Proof.Machine

/-- One step. -/
def step (s : State) : Host.Outcome State Fault Refusal :=
  match s.agenda with
  | .word nbits w :: rest =>
    match decodeTableWord nbits w with
    | some i => exec i { s with agenda := rest }
    | none => .refused (.illegalWord nbits w)
  | .op i :: rest => exec i { s with agenda := rest }
  | .log c :: rest => opLog c { s with agenda := rest }
  | .act a :: rest => .next (settle rest (doAct s a))
  | [] =>
    match decodePc s.pc with
    | .ok i => exec i s
    | .error e => .refused (.illegalPhase e)

/-- The environment with no condition signalled and both locks free at the next boundary. -/
def Env.quietOnce (e : Env) : Env :=
  { e with fault := none :: e.fault, grantA := true :: e.grantA, grantB := true :: e.grantB }

/-- `s` with one encoded operation placed where `step` looks next. A word that the phase register itself would run (the
sequencer's own fetch reads the same row from it) goes into the phase register; any other is placed as the operation in
progress. No condition is signalled and no lock is withheld at the next boundary, so that the very next step runs it.
Log 10. -/
def State.withFetchWord (s : State) (nbits w : Nat) : State :=
  let bypc := decide (w < 512) && decide (8 < nbits) && decide (nbits ≤ 16)
    && decide ((decodePc (BitVec.ofNat 9 w)).toOption = decodeTableWord nbits w)
  if bypc then { s with pc := BitVec.ofNat 9 w, agenda := [], env := s.env.quietOnce }
  else { s with agenda := [.word nbits w], env := s.env.quietOnce }

end Sys2Proof.Machine
end

