-- ==== Sys2Proof/Safety.lean ====
section
/-! DEFINITION. The terms the statements use: what a final state is, the invariants of 10_state.md R34, the events an
operation is said to emit, and runs of an instruction. -/

namespace Sys2Proof.Machine

/-! ### Marks and final states -/

/-- A run "is over exactly when `pc = (P_STOPPED, 0)` ... with `FAULT` and `REFUSED` false" (R117, R32). -/
def State.Final (s : State) : Prop := s.pc = pcWord .stopped 0 ∧ s.fault = none ∧ s.refused = false

/-- R34 (1) to (3): at most one lock held; a select low only with its bus held and configured; at most one select low. -/
def State.BusSafe (s : State) : Prop :=
  ¬(s.heldA = true ∧ s.heldB = true) ∧
  (s.adcCsn = false → s.heldA = true ∧ s.cfgvA = true) ∧
  (s.canCsn = false → s.heldB = true ∧ s.cfgvB = true) ∧
  ¬(s.adcCsn = false ∧ s.canCsn = false)

/-- R34 (4): both locks free and both selects high. -/
def State.BusQuiet (s : State) : Prop :=
  s.heldA = false ∧ s.heldB = false ∧ s.adcCsn = true ∧ s.canCsn = true

/-- The values of R17: a phase of the table and an index it has. -/
def legalPc (w : BitVec 9) : Bool :=
  match pcPhase w with
  | some p => pcIndex w ≤ lastIndex p
  | none => false

/-- The rows of R18 that no fault makes: the values of pc that may follow one another. -/
def phaseEdges : List (BitVec 9 × BitVec 9) :=
  [(pcWord .idle 0, pcWord .canReset 0), (pcWord .canReset 0, pcWord .canCfg 0)]
    ++ (List.range 4).map (fun k => (pcWord .canCfg k, pcWord .canCfg (k + 1)))
    ++ [(pcWord .canCfg 4, pcWord .schedInit 0), (pcWord .schedInit 0, pcWord .stopCheck 0),
        (pcWord .stopCheck 0, pcWord .sample 0), (pcWord .stopCheck 0, pcWord .shutdown 0)]
    ++ (List.range 22).map (fun k => (pcWord .sample k, pcWord .sample (k + 1)))
    ++ [(pcWord .sample 22, pcWord .clock 0), (pcWord .clock 0, pcWord .store 0), (pcWord .store 0, pcWord .tx 0),
        (pcWord .tx 0, pcWord .sleep 0)]
    ++ (List.range 5).map (fun k => (pcWord .tx k, pcWord .tx (k + 1)))
    ++ [(pcWord .tx 5, pcWord .sleep 0), (pcWord .sleep 0, pcWord .stopCheck 0),
        (pcWord .shutdown 0, pcWord .stopped 0)]

/-- A move of R18 that no fault makes. -/
def phaseEdge (a b : BitVec 9) : Bool := (a, b) ∈ phaseEdges

/-! ### Hypotheses on the draws -/

/-- No condition is signalled at the boundary at hand (R138). -/
def State.Calm (s : State) : Prop := s.window = .outside ∨ s.faultIn = none

/-- The state after the boundary at hand, where no condition is signalled there. -/
def State.passed (s : State) : State := if s.window = .outside then s else s.usedFault

/-- No condition is signalled at the next n boundaries. -/
def State.NoFault (n : Nat) (s : State) : Prop := List.replicate n none <+: s.env.fault

/-- No condition is signalled at the next n boundaries, or the phase is one where none is signalled (R138). -/
def State.CalmFor (n : Nat) (s : State) : Prop := s.window = .outside ∨ s.NoFault n

/-- The next n requests of a bus lock are granted at once. -/
def State.Grants (n : Nat) (s : State) : Bus → Prop
  | .busA => List.replicate n true <+: s.env.grantA
  | .busB => List.replicate n true <+: s.env.grantB

/-- The bytes the selected devices answer next. -/
def State.Answers (rs : List Byte) (s : State) : Prop := rs <+: s.env.rx

/-- The fairness assumption of 20_memory.md R50 (D28), on the free lock draws, which are numbered by the requests of a bus:
after every request of a bus there is a later one that is granted. It is an assumption on the environment, no property of
the block, and no statement uses it silently; `acquire_granted_of_fairness` says what it gives. -/
def LockFairness : Prop := ∀ bus n, ∃ m, n ≤ m ∧ Config.grantDraw bus m = true

/-! ### Runs -/

/-- Executing `i` in `s` answers a next state, and `n` steps after it the machine is in `t`. -/
def RunsTo (i : Instr) (n : Nat) (s t : State) : Prop :=
  ∃ t₁, exec i s = .next t₁ ∧ Host.Core.run Sys2Proof.core n t₁ = .next t

/-- A state some number of steps from reset leads to. -/
def Reachable (s : State) : Prop := ∃ n, Host.Core.run Sys2Proof.core n State.reset = .next s

/-- A loop fault has been taken from `s` (R139): the mark and the cause, pc at P_SHUTDOWN with `Log(c)` to come, no
event, and every register as it was but the pins and locks, which are unspecified (U9). -/
def FaultTaken (c : Cause) (s t : State) : Prop :=
  t.fault = some c ∧ t.pc = pcWord .shutdown 0 ∧ t.agenda = [.log c] ∧ t.trace = s.trace ∧
  t.x = s.x ∧ t.ts = s.ts ∧ t.now = s.now ∧ t.lastStore = s.lastStore ∧ t.lastTx = s.lastTx ∧ t.canst = s.canst ∧
  t.cfgvA = s.cfgvA ∧ t.cfgvB = s.cfgvB ∧ t.pay = s.pay ∧ t.payLive = s.payLive ∧ t.refused = s.refused ∧
  t.rx = s.rx ∧ t.ret = s.ret ∧ t.lastClk = s.lastClk ∧ t.waited = s.waited ∧ t.canRegs = s.canRegs ∧ t.txb0 = s.txb0 ∧ t.params = s.params

/-- Where chunk k meets its first boundary: pc at the chunk, in an Operational driver, over written bytes (R100, U11). -/
def State.atChunk (s : State) (k : Nat) : Option State :=
  if s.canst = .operational ∧ (chunk s.payload k).isSome then some (s.setPc .tx k) else none

/-- Where SEND_READINGS meets its first boundary: the frame packed and pc at chunk 0, in an Operational driver. -/
def State.atSending (s : State) : Option State :=
  if s.canst = .operational ∧ s.frame.isSome then
    some { s with pay := packed s.x, payLive := true, pc := pcWord .tx 0 }
  else none

/-- The state in which an operation meets its first event boundary: what its rule writes before its first event is written
(log 20), and its "Requires" clause, its operands, its comparator and its checks let it emit. None where no event comes. -/
def atFirstBoundary (s : State) : Instr → Option State
  | .acq _ | .csh _ | .muxSet _ | .muxPattern _ | .readAdc _ | .adcCmd _ _ | .adcCmdA0 _ | .adcCmdA1 _ | .adcCmdA2 _
  | .adcCmdA3 _ | .adcCmdA4 _ | .adcCmdA5 _ | .adcCmdA6 _ | .adcCmdA7 _ | .canResetCmd | .canWriteCmd _ _
  | .canWriteCmdW1 | .canWriteCmdW2 _ | .canWriteCmdW3 _ | .canWriteCmdW4 _ | .canWriteCmdW5 | .canRts0Cmd
  | .schedInit | .stopCheck | .readClock | .loopSleep | .shutdown => some s
  | .cfg bus => if s.held bus = true then some s else none
  | .csl d => if s.held d.bus = true ∧ s.cfgv d.bus = true then some s else none
  | .wait t => if 0 < t then some s else none
  | .xfer bus _ => if s.held bus = true ∧ s.cfgv bus = true ∧ s.csn bus.device = false then some s else none
  | .rel bus => if s.held bus = true ∧ s.csn bus.device = true then some s else none
  | .burst bus d _ tx => if d.bus = bus ∧ tx ≠ [] then some s else none
  | .canLoadTx0Cmd _ data => if data.length ≤ 8 then some s else none
  | .sendFrame id data => if s.canst = .operational ∧ id.toNat ≤ 0x7FF ∧ data.length ≤ 8 then some s else none
  | .canReset => some { s with canst := .resetting }
  | .canConfigure => some { s with canst := .configuring, pc := pcWord .canCfg 0 }
  | .canInit => some { s with canst := .resetting, pc := pcWord .canReset 0 }
  | .sampleAll => some { s with x := Vector.replicate 23 none, pc := pcWord .sample 0 }
  | .cfgWrite1 => some (s.setPc .canCfg 0)
  | .cfgWrite2 => some (s.setPc .canCfg 1)
  | .cfgWrite3 => some (s.setPc .canCfg 2)
  | .cfgWrite4 => some (s.setPc .canCfg 3)
  | .cfgWrite5 => some (s.setPc .canCfg 4)
  | .readDirect0 => some (s.setPc .sample 0)
  | .readDirect1 => some (s.setPc .sample 1)
  | .readDirect2 => some (s.setPc .sample 2)
  | .readDirect3 => some (s.setPc .sample 3)
  | .readDirect4 => some (s.setPc .sample 4)
  | .readDirect5 => some (s.setPc .sample 5)
  | .readDirect6 => some (s.setPc .sample 6)
  | .readMuxed7 => some (s.setPc .sample 7)
  | .readMuxed8 => some (s.setPc .sample 8)
  | .readMuxed9 => some (s.setPc .sample 9)
  | .readMuxed10 => some (s.setPc .sample 10)
  | .readMuxed11 => some (s.setPc .sample 11)
  | .readMuxed12 => some (s.setPc .sample 12)
  | .readMuxed13 => some (s.setPc .sample 13)
  | .readMuxed14 => some (s.setPc .sample 14)
  | .readMuxed15 => some (s.setPc .sample 15)
  | .readMuxed16 => some (s.setPc .sample 16)
  | .readMuxed17 => some (s.setPc .sample 17)
  | .readMuxed18 => some (s.setPc .sample 18)
  | .readMuxed19 => some (s.setPc .sample 19)
  | .readMuxed20 => some (s.setPc .sample 20)
  | .readMuxed21 => some (s.setPc .sample 21)
  | .readMuxed22 => some (s.setPc .sample 22)
  | .sendChunk0 => s.atChunk 0
  | .sendChunk1 => s.atChunk 1
  | .sendChunk2 => s.atChunk 2
  | .sendChunk3 => s.atChunk 3
  | .sendChunk4 => s.atChunk 4
  | .sendChunk5 => s.atChunk 5
  | .storeIfDue =>
    match s.now, s.lastStore with
    | some n, some l => if 1000000 ≤ n - l ∧ s.ts.isSome ∧ s.frame.isSome then some s else none
    | _, _ => none
  | .sendReadings => s.atSending
  | .txIfDue =>
    match s.now, s.lastTx with
    | some n, some l => if 500000 ≤ n - l then s.atSending else none
    | _, _ => none
  | .adcAnswer _ _ | .rd16Word _ | .pack | .split _ | .run | .pIdle | .pStopped | .pFailed => none

/-- Every entry of R31 but MUXSEL, which it leaves open. -/
def State.AtReset (s : State) : Prop :=
  s.pc = pcWord .idle 0 ∧ s.canst = .uninitialized ∧ (∀ i : Fin 23, s.x[i] = none) ∧ s.ts = none ∧ s.now = none ∧
  s.lastStore = none ∧ s.lastTx = none ∧ s.adcCsn = true ∧ s.canCsn = true ∧ s.heldA = false ∧ s.heldB = false ∧
  s.cfgvA = false ∧ s.cfgvB = false ∧ (∀ j : Fin 46, s.pay[j] = none ∧ s.payload[j] = none) ∧
  s.fault = none ∧ s.refused = false ∧ s.trace = []

/-! ### Events of the composite operations (R73, R84) -/

/-- The clock rate and mode of a bus (R77). -/
def busRate (p : Config.Params) : Bus → Nat × BitVec 2
  | .busA => (p.spiAHz, Config.spiModeA)
  | .busB => (p.spiBHz, p.spiModeB)

/-- A burst's events (R84 (1)): `ACQ CFG CSL [WAIT] XFER+ CSH REL`. -/
def burstEvents (p : Config.Params) (bus : Bus) (d : Device) (setup : Nat) (tx rs : List Byte) : List Event :=
  [.acq bus, .cfg bus (busRate p bus).1 (busRate p bus).2, .csl d] ++ (if 0 < setup then [.wait setup] else [])
    ++ List.zipWith (fun t r => .xfer bus t r) tx rs ++ [.csh d, .rel bus]

/-- A burst to the CAN controller. -/
def canEvents (p : Config.Params) (tx rs : List Byte) : List Event := burstEvents p .busB .can 0 tx rs

/-- An ADC transaction with input `a` (R86). -/
def adcEvents (p : Config.Params) (a : BitVec 3) (rs : List Byte) : List Event :=
  burstEvents p .busA .adc 1 [adcCommandByte a, p.adcFill] rs

/-- The events of the read of logical channel i (R87 to R89): for i in 0 to 6 the transaction with input i + 1; for i in 7
to 22 `MUX(i - 7) WAIT(50)` and the transaction with input 0. -/
def readEvents (p : Config.Params) (i : Nat) (rs : List Byte) : List Event :=
  if i < 7 then adcEvents p (BitVec.ofNat 3 (i + 1)) rs
  else [.mux (BitVec.ofNat 4 (i - 7)), .wait 50] ++ adcEvents p 0 rs

/-- The events of one SAMPLE_ALL (R91), two answer bytes per channel. -/
def sampleEvents (p : Config.Params) (rs : List Byte) : List Event :=
  (List.range 23).flatMap fun i => readEvents p i ((rs.drop (2 * i)).take 2)

/-- The reading of channel i from the answers of one SAMPLE_ALL (R57). -/
def sampledReading (rs : List Byte) (i : Nat) : Reading := readingOf (rs.getD (2 * i) 0) (rs.getD (2 * i + 1) 0)

/-- The events of CAN_RESET (R95). -/
def resetEvents (p : Config.Params) (rs : List Byte) : List Event := canEvents p [p.opReset] rs ++ [.wait 10000]

/-- The events of write W(k+1) (R97). -/
def cfgWriteEvents (p : Config.Params) (k : Fin 5) (rs : List Byte) : List Event :=
  canEvents p [p.opWrite, (cfgOperands p k).1, (cfgOperands p k).2] rs

/-- The events of CAN_CONFIGURE (R97), three received bytes per write. -/
def configureEvents (p : Config.Params) (rs : List Byte) : List Event :=
  (List.finRange 5).flatMap fun k => cfgWriteEvents p k ((rs.drop (3 * k.val)).take 3)

/-- A command on bus B runs as one burst of `tx`, after which `upd` is what has changed besides the bus registers: for
every state where bus B is not held, no condition is signalled and the lock is granted. -/
def CanCommandRuns (i : Instr) (tx : Config.Params → List Byte) (upd : Config.Params → State → State) : Prop :=
  ∀ (s : State) (rs : List Byte), s.heldB = false → s.CalmFor ((tx s.params).length + 5) → s.Grants 1 .busB →
    s.Answers rs → rs.length = (tx s.params).length →
    ∃ e, RunsTo i ((tx s.params).length + 4) s
      (settle s.agenda (upd s.params
        { s with env := e, rx := rs, cfgvB := true, canCsn := true,
                 trace := s.trace ++ canEvents s.params (tx s.params) rs }))

/-- An ADC command runs as one burst of `tx`, after which `upd` of the two answer bytes is what has changed besides the
bus registers: for every state where bus A is not held, no condition is signalled and the lock is granted. -/
def AdcCommandRuns (i : Instr) (tx : Config.Params → List Byte) (upd : List Byte → State → State) : Prop :=
  ∀ (s : State) (rs : List Byte), s.heldA = false → s.CalmFor 8 → s.Grants 1 .busA → s.Answers rs → rs.length = 2 →
    ∃ e, RunsTo i 7 s
      (settle s.agenda (upd rs
        { s with env := e, rx := rs, cfgvA := true, adcCsn := true, waited := s.waited + 1,
                 trace := s.trace ++ burstEvents s.params .busA .adc 1 (tx s.params) rs }))

/-- The reading decoded from two answer bytes (R57). -/
def answerOf (rs : List Byte) : Reading := readingOf (rs.getD 0 0) (rs.getD 1 0)

/-- The read of logical channel k runs (R88, R89, with pc as R18): `x[k]` is the reading of the answer, the select lines
are at `k - 7` for k in 7 to 22 and untouched for k in 0 to 6. -/
def ReadRuns (i : Instr) (k : Fin 23) : Prop :=
  ∀ (s : State) (rs : List Byte), s.heldA = false → s.NoFault 10 → s.Grants 1 .busA → s.Answers rs → rs.length = 2 →
    ∃ e, RunsTo i (if k.val < 7 then 7 else 9) s
      (settle s.agenda
        { s with env := e, x := s.x.set k (some (answerOf rs)), rx := rs, ret := .reading (answerOf rs),
                 cfgvA := true, adcCsn := true,
                 muxsel := if k.val < 7 then s.muxsel else BitVec.ofNat 4 (k.val - 7),
                 waited := s.waited + (if k.val < 7 then 1 else 51),
                 pc := if k.val < 22 then pcWord .sample (k.val + 1) else pcWord .clock 0,
                 trace := s.trace ++ readEvents s.params k.val rs })

/-- Write W(k+1) of the configuration runs (R97, with pc as R18). -/
def ConfigurationWriteRuns (i : Instr) (k : Fin 5) : Prop :=
  ∀ (s : State) (rs : List Byte), s.heldB = false → s.NoFault 8 → s.Grants 1 .busB → s.Answers rs → rs.length = 3 →
    ∃ e, RunsTo i 7 s
      (settle s.agenda
        { s with env := e, rx := rs, cfgvB := true, canCsn := true,
                 canRegs := s.canRegs.set (cfgOperands s.params k).1.toNat (cfgOperands s.params k).2,
                 pc := if k.val < 4 then pcWord .canCfg (k.val + 1) else pcWord .schedInit 0,
                 trace := s.trace ++ cfgWriteEvents s.params k rs })

/-- The registers of the CAN controller after the five writes of R97, as the block wrote them. -/
def configuredRegs (p : Config.Params) (m : Mem) : Mem :=
  (List.finRange 5).foldl (fun m k => m.set (cfgOperands p k).1.toNat (cfgOperands p k).2) m

/-- The events of the load of transmit buffer 0 (R101). -/
def loadEvents (p : Config.Params) (id : BitVec 11) (data rs : List Byte) : List Event :=
  let bytes := loadHeader id data.length ++ data
  if p.txLoadSplit then canEvents p [p.opLoadTx0] (rs.take 1) ++ canEvents p bytes (rs.drop 1)
  else canEvents p (p.opLoadTx0 :: bytes) rs

/-- The events of SEND_FRAME (R101 to R103): the load, then the request-to-send. -/
def frameEvents (p : Config.Params) (id : BitVec 11) (data rs : List Byte) : List Event :=
  loadEvents p id data (rs.take (6 + data.length)) ++ canEvents p [p.opRts0] (rs.drop (6 + data.length))

/-- The wait after chunk k (R126). -/
def interframeEvents (p : Config.Params) (k : Nat) : List Event :=
  if k < 5 ∨ p.ifdAfterLast then [.wait 5000] else []

/-- The 46 payload bytes of 23 readings, big-endian, in ascending channel order (R37, R123). -/
def payloadOf (v : List Reading) : List Byte := v.flatMap fun r => [readingHigh r, readingLow r]

/-- The bytes of chunk k (R124). -/
def chunkOf (payload : List Byte) (k : Nat) : List Byte := (payload.drop (8 * k)).take 8

/-- The events of chunk k (R126). -/
def chunkEvents (p : Config.Params) (payload : List Byte) (k : Nat) (rs : List Byte) : List Event :=
  frameEvents p (BitVec.ofNat 11 (0x100 + k)) (chunkOf payload k) rs ++ interframeEvents p k

/-- The events of SEND_READINGS (R127): 15 received bytes for each of the chunks 0 to 4, 13 for chunk 5. -/
def sendEvents (p : Config.Params) (payload rs : List Byte) : List Event :=
  (List.range 6).flatMap fun k => chunkEvents p payload k ((rs.drop (15 * k)).take (7 + (chunkOf payload k).length))

/-- Transmit buffer 0 after the loads of the six chunks, as the block wrote it. -/
def loadedChunks (payload : List Byte) (m : Mem) : Mem :=
  (List.range 6).foldl
    (fun m k => m.setList 0 (loadHeader (BitVec.ofNat 11 (0x100 + k)) (chunkOf payload k).length ++ chunkOf payload k)) m

/-- The waits of one SEND_READINGS (R127). -/
def sendWaits (p : Config.Params) : Nat := if p.ifdAfterLast then 30000 else 25000

/-- Chunk k runs (R126, with pc as R18), where the driver is Operational and the staging buffer holds `payload`. -/
def ChunkRuns (i : Instr) (k : Fin 6) : Prop :=
  ∀ (s : State) (payload rs : List Byte), s.canst = .operational → allWritten s.payload.toList = some payload →
    s.heldB = false → s.NoFault 31 → s.Grants 3 .busB → s.Answers rs →
    rs.length = 7 + (chunkOf payload k.val).length →
    ∃ e, RunsTo i ((chunkEvents s.params payload k.val rs).length - 1) s
      (settle s.agenda
        { s with env := e, rx := rs.drop (6 + (chunkOf payload k.val).length), ret := .ok, cfgvB := true, canCsn := true,
                 txb0 := s.txb0.setList 0 (loadHeader (BitVec.ofNat 11 (0x100 + k.val)) (chunkOf payload k.val).length
                           ++ chunkOf payload k.val),
                 waited := s.waited + (if k.val < 5 ∨ s.params.ifdAfterLast = true then 5000 else 0),
                 pc := if k.val < 5 then pcWord .tx (k.val + 1) else pcWord .sleep 0,
                 trace := s.trace ++ chunkEvents s.params payload k.val rs })

/-- What SEND_READINGS leaves (R126, R127): the six frames of the payload of `v` sent, PAY's bytes their snapshot, which is
no value any more (R26, log 18), pc at P_SLEEP. -/
def sentReadings (s : State) (v : List Reading) (rs : List Byte) (e : Env) : State :=
  { s with env := e, pay := Vector.ofFn fun j : Fin 46 => (payloadOf v)[j.val]?, payLive := false, rx := rs.drop 87, ret := .ok,
           cfgvB := true, canCsn := true, txb0 := loadedChunks (payloadOf v) s.txb0,
           waited := s.waited + sendWaits s.params, pc := pcWord .sleep 0,
           trace := s.trace ++ sendEvents s.params (payloadOf v) rs }

/-! ### The receiver's view (R128) -/

/-- Big-endian 16-bit words read back as readings: `(b0 << 8) | b1` (R65). -/
def receivedWords : List Byte → List Nat
  | b0 :: b1 :: rest => (b0.toNat * 256 + b1.toNat) :: receivedWords rest
  | _ => []

/-- The bytes of each chip-select burst of the CAN controller in a trace (R71: "every command is exactly one chip-select
burst"); `cur` holds the bytes of the burst that is open. -/
def burstBytes : List Event → Option (List Byte) → List (List Byte)
  | .csl .can :: rest, _ => burstBytes rest (some [])
  | .xfer .busB tx _ :: rest, some l => burstBytes rest (some (l ++ [tx]))
  | .csh .can :: rest, some l => l :: burstBytes rest none
  | _ :: rest, cur => burstBytes rest cur
  | [], _ => []

/-! ### The clock and the stores in a trace -/

/-- The waits in a trace. -/
def waitsOf : List Event → Nat
  | [] => 0
  | .wait t :: rest => t + waitsOf rest
  | _ :: rest => waitsOf rest

/-- The last clock value of a trace and the waits since, from those before it. -/
def clockAfter : List Event → Option Nat × Nat → Option Nat × Nat
  | [], c => c
  | .wait t :: rest, (l, w) => clockAfter rest (l, w + t)
  | .clk t :: rest, _ => clockAfter rest (some t, 0)
  | _ :: rest, c => clockAfter rest c

/-- Laws 1 and 2 of R110: of two clock values the later is greater by at least the waits between them. -/
def ClockLawful (tr : List Event) : Prop :=
  ∀ (a b c : List Event) (u v : Nat), tr = a ++ .clk u :: (b ++ .clk v :: c) → u + waitsOf b ≤ v

/-- The clock bookkeeping agrees with the trace, and the trace obeys the laws of R110. -/
def State.ClockInv (s : State) : Prop :=
  clockAfter s.trace (none, 0) = (s.lastClk, s.waited) ∧ ClockLawful s.trace

/-- The timestamps of the STORE events of a trace, in order. -/
def storeTimes (tr : List Event) : List Nat := tr.filterMap fun e => match e with | .store ts _ _ => some ts | _ => none

/-- The stores of the trace are at least STORE_PERIOD apart (R118), with what carries it: TS is NOW, no clock register is
later than the last clock value, and no store is later than LAST_STORE. -/
def State.StoreInv (s : State) : Prop :=
  s.ts = s.now ∧
  (∀ n, s.now = some n → ∃ c, s.lastClk = some c ∧ n ≤ c) ∧
  (∀ a, s.lastStore = some a → ∃ c, s.lastClk = some c ∧ a ≤ c) ∧
  (∀ t ∈ storeTimes s.trace, ∃ a, s.lastStore = some a ∧ t ≤ a) ∧
  (storeTimes s.trace).Pairwise (fun a b => a + 1000000 ≤ b)

/-- An item in progress that neither reads the clock nor begins a timed transmission. -/
def clockless : Frame → Bool
  | .op i => i ≠ .schedInit ∧ i ≠ .readClock ∧ i ≠ .txIfDue
  | .log _ | .act _ => true
  | .word _ _ => false

/-- What carries the cadence of the transmissions (R118): nothing in progress moves the clock registers but the write of
LAST_TX that ends a transmission, and where that one is to come, NOW is TX_PERIOD after LAST_TX (or LAST_TX has it). -/
def State.TxInv (s : State) : Prop :=
  s.agenda.all clockless = true ∧
  (.act .lastTx ∈ s.agenda →
    ∃ now last, s.now = some now ∧ s.lastTx = some last ∧ (last = now ∨ last + 500000 ≤ now))

/-- How LAST_TX moves in a step (R118): not at all, or in SCHED_INIT, or to a NOW at least TX_PERIOD after its old value. -/
def TxMoves (s t : State) : Prop :=
  t.lastTx = s.lastTx ∨ (s.agenda = [] ∧ s.pc = pcWord .schedInit 0) ∨
  ∃ now last, s.now = some now ∧ s.lastTx = some last ∧ last + 500000 ≤ now ∧ t.lastTx = some now

/-! ### The sequencer's invariant

What is left of the operation in progress is run over a summary of the state (which bus is how far, which registers are
written); the run must go through and end at a phase boundary that meets what its phase needs. -/

/-- How far the block is with a bus. -/
inductive BusMode where
  | idle
  | acquired (bus : Bus)
  | ready (bus : Bus)
  | selected (bus : Bus)
deriving DecidableEq, Repr

/-- The mode the lock, configuration and select registers show, where they show one. -/
def State.busMode (s : State) : Option BusMode :=
  match s.heldA, s.heldB, s.adcCsn, s.canCsn with
  | false, false, true, true => some .idle
  | true, false, true, true => some (if s.cfgvA then .ready .busA else .acquired .busA)
  | false, true, true, true => some (if s.cfgvB then .ready .busB else .acquired .busB)
  | true, false, false, true => if s.cfgvA then some (.selected .busA) else none
  | false, true, true, false => if s.cfgvB then some (.selected .busB) else none
  | _, _, _, _ => none

/-- The summary of a state. -/
structure Shape where
  mode : BusMode
  pc : BitVec 9
  canst : CanState
  /-- which readings are written -/
  x : List Bool
  /-- PAY holds a value -/
  pay : Bool
  /-- how many bytes the burst has received -/
  rx : Nat
  /-- the value returned last is a reading -/
  reading : Bool
  /-- LAST_STORE and LAST_TX are written -/
  started : Bool
  /-- NOW and TS are written -/
  clocked : Bool
  /-- NOW and TS are unwritten -/
  fresh : Bool
  /-- the phase register has been written since the last event -/
  moved : Bool
deriving DecidableEq, Repr

/-- The summary of a state, given its bus mode. -/
def State.shape (s : State) (m : BusMode) : Shape :=
  { mode := m, pc := s.pc, canst := s.canst, x := s.x.toList.map Option.isSome, pay := s.payload.toList.all Option.isSome,
    rx := s.rx.length, reading := (match s.ret with | .reading _ => true | _ => false),
    started := s.lastStore.isSome && s.lastTx.isSome, clocked := s.now.isSome && s.ts.isSome,
    fresh := s.now.isNone && s.ts.isNone, moved := false }

/-- R34 (5): "CANST = Operational at every phase from P_SCHED_INIT on", and pc is a value of R17. -/
def Shape.okNow (h : Shape) : Bool :=
  legalPc h.pc &&
  match pcPhase h.pc with
  | some .schedInit | some .stopCheck | some .sample | some .clock | some .store | some .tx | some .sleep
  | some .shutdown | some .stopped => h.canst = .operational
  | some .idle | some .canReset | some .canCfg => true
  | some .failed | none => false

/-- What a phase boundary needs (R18, R34 (4)): the buses quiet, index 0, and what the phase's operation reads written. -/
def Shape.boundary (h : Shape) : Bool :=
  h.okNow && h.mode = .idle && pcIndex h.pc = 0 &&
  match pcPhase h.pc with
  | some .idle | some .canReset | some .canCfg | some .schedInit => h.fresh
  | some .stopCheck | some .sample => h.started
  | some .clock => h.started && h.x.all id
  | some .store | some .tx => h.started && h.clocked && h.x.all id
  | some .sleep => h.started
  | some .shutdown | some .stopped => true
  | some .failed | none => false

/-- A silent action over a summary. The phase register moves along R18, once between two events. -/
def Shape.act (h : Shape) : Act → Option Shape
  | .answer => some (if h.rx = 2 then { h with reading := true } else h)
  | .writeX i => some (if h.reading then { h with x := h.x.set i.val true } else h)
  | .setPc w => if phaseEdge h.pc w && !h.moved then some { h with pc := w, moved := true } else none
  | .setCanst c => some { h with canst := c }
  | .noteReg _ _ | .noteTx _ => some h
  | .sent => some { h with reading := false }
  | .dropPay => some { h with pay := false }
  | .lastTx => some { h with started := h.started && h.clocked }

/-- The read of channel i over a summary, the phase register at i. -/
def Shape.read (h : Shape) (i : Fin 23) : Option Shape :=
  if h.mode = .idle && h.canst = .operational && h.pc = pcWord .sample i.val then
    some { h with pc := nextSample i.val, rx := 2, reading := true, x := h.x.set i.val true, moved := true }
  else none

/-- Write W(k+1) over a summary, the phase register at k. -/
def Shape.write (h : Shape) (k : Nat) : Option Shape :=
  if h.mode = .idle && h.pc = pcWord .canCfg k then some { h with pc := nextCfg k, rx := 3, moved := true } else none

/-- Chunk k over a summary, the phase register at k. -/
def Shape.send (h : Shape) (k : Nat) : Option Shape :=
  if h.mode = .idle && h.canst = .operational && h.pay && h.pc = pcWord .tx k then
    some { h with pc := nextTx k, rx := 1, reading := false, moved := true }
  else none

/-- An operation in progress over a summary: none where its "Requires" fails, and for every operation that never is in
progress. -/
def Shape.op (h : Shape) : Instr → Option Shape
  | .acq bus => if h.mode = .idle then some { h with mode := .acquired bus, rx := 0, moved := false } else none
  | .cfg bus => if h.mode = .acquired bus then some { h with mode := .ready bus, moved := false } else none
  | .csl d => if h.mode = .ready d.bus then some { h with mode := .selected d.bus, moved := false } else none
  | .wait t => if 0 < t then some { h with moved := false } else none
  | .xfer bus _ => if h.mode = .selected bus then some { h with rx := h.rx + 1, moved := false } else none
  | .csh d => if h.mode = .selected d.bus then some { h with mode := .ready d.bus, moved := false } else none
  | .rel bus => if h.mode = .ready bus then some { h with mode := .idle, moved := false } else none
  | .burst bus d _ tx =>
    if h.mode = .idle && d.bus = bus && !tx.isEmpty then some { h with rx := tx.length, moved := false } else none
  | .readAdc _ => if h.mode = .idle then some { h with rx := 2, reading := true, moved := false } else none
  | .canRts0Cmd => if h.mode = .idle then some { h with rx := 1, moved := false } else none
  | .cfgWrite1 => h.write 0
  | .cfgWrite2 => h.write 1
  | .cfgWrite3 => h.write 2
  | .cfgWrite4 => h.write 3
  | .cfgWrite5 => h.write 4
  | .readDirect0 => h.read 0
  | .readDirect1 => h.read 1
  | .readDirect2 => h.read 2
  | .readDirect3 => h.read 3
  | .readDirect4 => h.read 4
  | .readDirect5 => h.read 5
  | .readDirect6 => h.read 6
  | .readMuxed7 => h.read 7
  | .readMuxed8 => h.read 8
  | .readMuxed9 => h.read 9
  | .readMuxed10 => h.read 10
  | .readMuxed11 => h.read 11
  | .readMuxed12 => h.read 12
  | .readMuxed13 => h.read 13
  | .readMuxed14 => h.read 14
  | .readMuxed15 => h.read 15
  | .readMuxed16 => h.read 16
  | .readMuxed17 => h.read 17
  | .readMuxed18 => h.read 18
  | .readMuxed19 => h.read 19
  | .readMuxed20 => h.read 20
  | .readMuxed21 => h.read 21
  | .readMuxed22 => h.read 22
  | .sendChunk0 => h.send 0
  | .sendChunk1 => h.send 1
  | .sendChunk2 => h.send 2
  | .sendChunk3 => h.send 3
  | .sendChunk4 => h.send 4
  | .sendChunk5 => h.send 5
  | _ => none

/-- What is left in progress, run over a summary: it goes through and ends at a phase boundary. -/
def Shape.completes : List Frame → Shape → Bool
  | [], h => h.boundary
  | .act a :: rest, h =>
    match h.act a with
    | some h' => Shape.completes rest h'
    | none => false
  | .op i :: rest, h =>
    h.okNow &&
    match h.op i with
    | some h' => Shape.completes rest h'
    | none => false
  | .word _ _ :: _, _ => false
  | .log _ :: _, _ => false

/-- R34 (6), with what carries it: no clock register is later than the last clock value, and LAST_STORE and LAST_TX are
not later than NOW. -/
def State.ClockOrdered (s : State) : Prop :=
  (∀ a, s.lastStore = some a → ∃ c, s.lastClk = some c ∧ a ≤ c) ∧
  (∀ a, s.lastTx = some a → ∃ c, s.lastClk = some c ∧ a ≤ c) ∧
  (∀ n, s.now = some n → ∃ c, s.lastClk = some c ∧ n ≤ c) ∧
  (∀ a n, s.lastStore = some a → s.now = some n → a ≤ n) ∧
  (∀ a n, s.lastTx = some a → s.now = some n → a ≤ n)

/-- No silent action is left undone between steps. -/
def settled : List Frame → Bool
  | .act _ :: _ => false
  | _ => true

/-- THE INVARIANT of the sequencer. Without a fault: the bus registers show a mode, what is in progress goes through,
nothing has been refused, and the clocks are ordered. With a fault: the fault path of R139, or its end. -/
def State.Inv (s : State) : Prop :=
  match s.fault with
  | none =>
    (∃ m, s.busMode = some m ∧ Shape.completes s.agenda (s.shape m) = true) ∧ settled s.agenda = true ∧
      s.refused = false ∧ s.ClockOrdered
  | some _ =>
    s.refused = false ∧
    ((s.pc = pcWord .shutdown 0 ∧ (s.agenda = [] ∨ ∃ c, s.agenda = [.log c])) ∨
     (s.pc = pcWord .failed 0 ∧ s.agenda = []))

end Sys2Proof.Machine
end

