-- ==== Sys2Proof/Certificates/Slice0/Obligations.lean ====
section
/-! DEFINITION. The statements for the provers. An operation of several events runs as that many steps: its first event is
`exec`'s, the others are the steps after it (`RunsTo`, log 1). What follows an operation silently is written
`settle s.agenda`, which only does what was in progress before it (log 1). `e` is the environment afterwards, the draws
that were made gone from it (log 2). Of the fields a statement mentions beside the registers of R13, `waited` and `lastClk`
are the clock's bookkeeping (log 13), `rx` and `ret` what was received and returned (log 6), `canRegs` and `txb0` the record
of what the block has written to the CAN controller (R27, R28, log 17). A next state is given whole, so that what a
statement does not name is unchanged. No statement about a select, an exchange, a release or a burst asks what the other
bus's select does: that they run while it is low is the model's choice (log 15), in states that R34 (1) to (3) rule out. That a
phase row or a step row run while pc is elsewhere moves pc as in its own phase is the model's choice (log 28). -/

open Sys2Proof Sys2Proof.Machine

/-! ### Encodings -/

/-- R55: "Bit 7 = 1; bits 6:4 = `a`, the 3-bit ADC input address (0 to 7); bits 3:0 = 0. As a formula: `cmd(a) = 0x80 |
(a << 4)`", with the eight values it lists. -/
def Obligations.AdcCommandByteFollowsTheFormula : Prop :=
  (∀ a : BitVec 3,
    (adcCommandByte a).toNat = 0x80 ||| (a.toNat <<< 4) ∧ (adcCommandByte a).getLsbD 7 = true ∧
    (adcCommandByte a).extractLsb' 4 3 = a ∧ (adcCommandByte a).extractLsb' 0 4 = 0) ∧
  (List.range 8).map (fun a => adcCommandByte (BitVec.ofNat 3 a)) = [0x80, 0x90, 0xA0, 0xB0, 0xC0, 0xD0, 0xE0, 0xF0]

/-- R57: "`reading = ((rx[0] & 0x0F) << 8) | rx[1]`"; the high four bits of `rx[0]` are ignored "whatever they are"; the
result "lies in 0 to 4095 for every pair of bytes". -/
def Obligations.ReadingExtractionFollowsTheFormula : Prop :=
  ∀ b0 b1 : Byte,
    (readingOf b0 b1).toNat = ((b0.toNat &&& 0x0F) <<< 8) ||| b1.toNat ∧ (readingOf b0 b1).toNat ≤ 4095 ∧
    ∀ c0 : Byte, c0 &&& 0x0F = b0 &&& 0x0F → readingOf c0 b1 = readingOf b0 b1

/-- R62 with R28: the identifier bytes are `id >> 3` and `(id & 0x7) << 5`; the five header bytes of a load. -/
def Obligations.HeaderBytesCarryIdentifierAndLength : Prop :=
  ∀ (id : BitVec 11) (len : Nat), len ≤ 8 →
    (idHigh id).toNat = id.toNat >>> 3 ∧ (idLow id).toNat = (id.toNat &&& 0x7) <<< 5 ∧
    (idLow id).extractLsb' 0 5 = 0 ∧ idOf (idHigh id) (idLow id) = id ∧
    loadHeader id len = [idHigh id, idLow id, 0x00, 0x00, BitVec.ofNat 8 len] ∧
    (BitVec.ofNat 8 len).toNat = len

/-- R65: "first byte `x[i] >> 8` (0x00 to 0x0F), second byte `x[i] & 0xFF`"; "A receiver decodes with `(b0 << 8) | b1`". -/
def Obligations.PackedReadingBytesDecodeBack : Prop :=
  ∀ v : Reading,
    (readingHigh v).toNat = v.toNat >>> 8 ∧ (readingHigh v).toNat ≤ 0x0F ∧ (readingLow v).toNat = v.toNat &&& 0xFF ∧
    ((readingHigh v).toNat <<< 8) ||| (readingLow v).toNat = v.toNat

/-- DECODE AND ENCODE AGREE: the bytes of a well-formed instruction, at their place, decode to it, or to the most specific
row that matches them where the table gives their word a more specific row (R75). -/
def Obligations.DecodeOfEncode : Prop :=
  ∀ (i : Instr) (pl : Place) (bs : List Byte), i.wellFormed = true → encode i = some (pl, bs) →
    decode pl bs = .ok i.mostSpecific

/-- The other direction: bytes that decode are the encoding of what they decode to, which is well-formed and its own most
specific row. -/
def Obligations.EncodeOfDecode : Prop :=
  ∀ (pl : Place) (bs : List Byte) (i : Instr), decode pl bs = .ok i →
    i.wellFormed = true ∧ encode i = some (pl, bs) ∧ i.mostSpecific = i

/-- Words written out from the spec's encodings decode to what they stand for (a sanity statement): R55, R57, R58, R60 to
R62, R64, R65, R17. -/
def Obligations.WrittenOutWordsDecode : Prop :=
  decode .busAOut [0xB0, 0x00] = .ok (.adcCmdA3 0x00) ∧
  decode .busAIn [0x0A, 0xBC] = .ok (.adcAnswer 0x0 0xABC) ∧
  decode .select [0x05] = .ok (.muxPattern 5) ∧
  decode .busB [0x02, 0x0F, 0x80] = .ok .canWriteCmdW1 ∧
  decode .busB [0x40, 0x20, 0xA0, 0x00, 0x00, 0x06, 0x08, 0x34, 0x08, 0x98, 0x08, 0xFC]
    = .ok (.canLoadTx0Cmd 0x105 [0x08, 0x34, 0x08, 0x98, 0x08, 0xFC]) ∧
  decode .busB [0x81] = .ok .canRts0Cmd ∧
  decode .payload [0x0F, 0xFF] = .ok (.rd16Word 4095) ∧
  decode .phase [0x00, 0xC0] = .ok .readClock ∧
  decode .phase [0x01, 0xA0] = .error (.unusedPhase 13)

/-! ### The step -/

/-- A STEP RUNS THE DECODED OPERATION: what is in progress first; where nothing is, what the phase register decodes to,
which is the operation of R17 at index 0 and the step row of the index elsewhere (log 12); a value of the phase register
that is none of R17 is refused by name. -/
def Obligations.StepRunsTheDecodedOperation : Prop :=
  (∀ (s : State) (i : Instr), s.agenda = [] → decodePc s.pc = .ok i → step s = exec i s) ∧
  (∀ (s : State) (i : Instr) (rest : List Frame), s.agenda = .op i :: rest → step s = exec i { s with agenda := rest }) ∧
  (∀ p : Phase, decodePc (pcWord p 0) = .ok (phaseRow p)) ∧
  (∀ (p : Phase) (k : Nat) (i : Instr), 0 < k → (stepRows p)[k]? = some i → decodePc (pcWord p k) = .ok i) ∧
  (∀ w : BitVec 9, legalPc w = false ↔ ∃ e, decodePc w = .error e) ∧
  (∀ (s : State) (e : DecodeError), s.agenda = [] → decodePc s.pc = .error e → step s = .refused (.illegalPhase e))

/-- The model's own interface (log 10): a word placed with `withFetchWord` that a row decodes is what the very next step
runs, with nothing else in progress and everything else as it was but, for a word the sequencer fetches itself, pc. -/
def Obligations.StepRunsThePlacedWord : Prop :=
  ∀ (s : State) (nbits w : Nat) (i : Instr), decodeTableWord nbits w = some i →
    ∃ p : BitVec 9, (p = s.pc ∨ p = BitVec.ofNat 9 w) ∧
      step (s.withFetchWord nbits w) = exec i { s with agenda := [], env := s.env.quietOnce, pc := p }

/-! ### The primitives -/

/-- R76: where the lock is free, "`HELD_b <- true ; CFGV_b <- false`", "emit ACQ(b)"; where it is not, "hold until the lock
of bus b is free -- busy wait, no timeout, no event". That holding is a step of its own, which answers a next state still at
the acquisition and asks again, is the model's choice (logs 1, 14): for R50 "an `Acquire` has a step only when the lock is
free". -/
def Obligations.AcquireTakesOrHolds : Prop :=
  ∀ (bus : Bus) (s : State), s.Calm → s.held bus = false →
    (s.passed.grantIn bus = true → ∃ e,
      exec (.acq bus) s = .next (settle s.agenda
        { (s.setHeld true bus).setCfgv false bus with env := e, rx := [], trace := s.trace ++ [.acq bus] })) ∧
    (s.passed.grantIn bus = false → ∃ e,
      exec (.acq bus) s = .next { s with env := e, agenda := .op (.acq bus) :: s.agenda })

/-- R77, and R82 as the model reads it: with the lock held, `CFG(A, SPI_A_HZ, SPI_MODE_A)` and `CFGV_A <- true`, the same for bus B; with the
select of the bus's one device high too, "`HELD_b <- false` ; emit REL(b)". R82 asks for "both selects of bus b's devices
high"; that the other bus's select is not looked at is the model's choice (log 15). -/
def Obligations.HeldBusIsConfiguredAndReleased : Prop :=
  ∀ (bus : Bus) (s : State), s.Calm → s.held bus = true →
    (∃ e, exec (.cfg bus) s = .next (settle s.agenda
      { s.setCfgv true bus with
          env := e,
          trace := s.trace ++
            [match bus with
             | .busA => .cfg .busA s.params.spiAHz 0
             | .busB => .cfg .busB s.params.spiBHz s.params.spiModeB] })) ∧
    (s.csn bus.device = true → ∃ e,
      exec (.rel bus) s = .next (settle s.agenda { s.setHeld false bus with env := e, trace := s.trace ++ [.rel bus] }))

/-- R78 and R81: with the bus of the device held and configured, `CsLow` drives its select low; `CsHigh` drives it high. R78
says that a select is never asserted while it or the other device's is; that `CsLow` looks at neither is the model's choice
(log 15), as is that `CsHigh` asks for nothing. -/
def Obligations.ChipSelectsMove : Prop :=
  ∀ (d : Device) (s : State), s.Calm →
    (s.held d.bus = true → s.cfgv d.bus = true → ∃ e,
      exec (.csl d) s = .next (settle s.agenda { s.setCsn false d with env := e, trace := s.trace ++ [.csl d] })) ∧
    (∃ e, exec (.csh d) s = .next (settle s.agenda { s.setCsn true d with env := e, trace := s.trace ++ [.csh d] }))

/-- R80: with the bus held, configured and its device selected, `rx <- draw`, "emit XFER(b, tx, rx)", "return rx": the byte
joins those of the burst. R80 asks for "the select of exactly one device of bus b asserted", "nor with both"; that the other
bus's select is not looked at is the model's choice (log 15). -/
def Obligations.ExchangeDrawsAByte : Prop :=
  ∀ (bus : Bus) (tx : Byte) (s : State), s.Calm → s.held bus = true → s.cfgv bus = true → s.csn bus.device = false →
    ∃ e, exec (.xfer bus tx) s = .next (settle s.agenda
      { s with env := e, rx := s.rx ++ [s.passed.rxIn], trace := s.trace ++ [.xfer bus tx s.passed.rxIn] })

/-- R79 without the hold ("A model that has no time keeps the event and drops the hold"): `WAIT(t)` is emitted, and the
clock will see the wait (R110, law 2; logs 13, 14). -/
def Obligations.WaitIsKeptForTheClock : Prop :=
  ∀ (t : Nat) (s : State), s.Calm → 0 < t → ∃ e,
    exec (.wait t) s = .next (settle s.agenda
      { s with env := e, waited := s.waited + t, trace := s.trace ++ [.wait t] })

/-- R85: "`MUXSEL <- s` -- all four lines in one step", "emit MUX(s)", whatever MUXSEL was; no bus is needed. -/
def Obligations.SelectLinesTakeThePattern : Prop :=
  ∀ (sel : BitVec 4) (s : State), s.Calm → ∃ e,
    exec (.muxSet sel) s = .next (settle s.agenda { s with env := e, muxsel := sel, trace := s.trace ++ [.mux sel] })

/-- An operation asked for where its "Requires" clause fails or with an operand outside its range stops by name (the model's
choice, logs 15, 21); so does one that reads a register nothing has written (93_implementation_defined.md U11, R15; log 4):
PACK and SEND_READINGS over `x`, SPLIT and, in an Operational driver, the chunk rows over PAY, which holds no value after
SEND_READINGS either (R26, log 18), STORE_IF_DUE and TX_IF_DUE over NOW, LAST_STORE, LAST_TX and, where they are due, TS and
`x`. -/
def Obligations.UnmetRequirementsStop : Prop :=
  ∀ (s : State) (bus : Bus) (d : Device) (tx : Byte),
    (s.held bus = false → exec (.cfg bus) s = .fault .cfgWithoutLock) ∧
    (¬(s.held d.bus = true ∧ s.cfgv d.bus = true) → exec (.csl d) s = .fault .selectWithoutBus) ∧
    (¬(s.held bus = true ∧ s.cfgv bus = true ∧ s.csn bus.device = false) →
      exec (.xfer bus tx) s = .fault .xferWithoutBus) ∧
    (¬(s.held bus = true ∧ s.csn bus.device = true) → exec (.rel bus) s = .fault .releaseNotAllowed) ∧
    exec (.wait 0) s = .fault .badOperand ∧
    (∀ (setup : Nat) (l : List Byte), (d.bus ≠ bus ∨ l = []) → exec (.burst bus d setup l) s = .fault .badOperand) ∧
    (∀ (id : BitVec 11) (l : List Byte), 8 < l.length → exec (.canLoadTx0Cmd id l) s = .fault .badOperand) ∧
    (s.frame = none → exec .pack s = .fault .unwritten ∧ exec .sendReadings s = .fault .unwritten) ∧
    (∀ k : Fin 6, chunk s.payload k.val = none →
      exec (.split k) s = .fault .unwritten ∧
      ∀ i : Instr, chunkRows[k.val]? = some i → s.canst = .operational → exec i s = .fault .unwritten) ∧
    (s.now = none → exec .storeIfDue s = .fault .unwritten ∧ exec .txIfDue s = .fault .unwritten) ∧
    (s.lastStore = none → exec .storeIfDue s = .fault .unwritten) ∧
    (s.lastTx = none → exec .txIfDue s = .fault .unwritten) ∧
    (∀ now last : Nat, s.now = some now → s.lastStore = some last → 1000000 ≤ now - last → (s.ts = none ∨ s.frame = none) →
      exec .storeIfDue s = .fault .unwritten) ∧
    (∀ now last : Nat, s.now = some now → s.lastTx = some last → 500000 ≤ now - last → s.frame = none →
      exec .txIfDue s = .fault .unwritten)

/-- R83 with R84: a burst emits `ACQ CFG CSL [WAIT] XFER+ CSH REL`, n + 6 events with a setup wait and n + 5 without (R84 (2),
a count that the spec derives from R83), and returns the n bytes received (with any setup and any bytes, the device's own or
not: log 21); after it the lock is free, the select high and the configuration mark still set. -/
def Obligations.BurstRuns : Prop :=
  ∀ (bus : Bus) (d : Device) (setup : Nat) (tx rs : List Byte) (s : State),
    d.bus = bus → tx ≠ [] → rs.length = tx.length → s.held bus = false →
    s.CalmFor (tx.length + 6) → s.Grants 1 bus → s.Answers rs →
    (burstEvents s.params bus d setup tx rs).length = tx.length + (if 0 < setup then 6 else 5) ∧
    ∃ e, RunsTo (.burst bus d setup tx) ((burstEvents s.params bus d setup tx rs).length - 1) s
      (settle s.agenda
        { ((s.setHeld false bus).setCfgv true bus).setCsn true d with
            env := e, rx := rs, waited := s.waited + setup,
            trace := s.trace ++ burstEvents s.params bus d setup tx rs })

/-! ### The Analog Sampler -/

/-- The command words of bus A (R55, R56), each sent as one ADC burst (R86, log 16): ADC_CMD with any input, and its eight
instances with inputs 0 to 7. -/
def Obligations.AdcCommandWordsSend : Prop :=
  ∀ f : Byte,
    (∀ a : BitVec 3, AdcCommandRuns (.adcCmd a f) (fun _ => [adcCommandByte a, f]) (fun _ t => t)) ∧
    AdcCommandRuns (.adcCmdA0 f) (fun _ => [0x80, f]) (fun _ t => t) ∧
    AdcCommandRuns (.adcCmdA1 f) (fun _ => [0x90, f]) (fun _ t => t) ∧
    AdcCommandRuns (.adcCmdA2 f) (fun _ => [0xA0, f]) (fun _ t => t) ∧
    AdcCommandRuns (.adcCmdA3 f) (fun _ => [0xB0, f]) (fun _ t => t) ∧
    AdcCommandRuns (.adcCmdA4 f) (fun _ => [0xC0, f]) (fun _ t => t) ∧
    AdcCommandRuns (.adcCmdA5 f) (fun _ => [0xD0, f]) (fun _ t => t) ∧
    AdcCommandRuns (.adcCmdA6 f) (fun _ => [0xE0, f]) (fun _ t => t) ∧
    AdcCommandRuns (.adcCmdA7 f) (fun _ => [0xF0, f]) (fun _ t => t)

/-- The other words as operations (R57, R58, R65; log 16): an answer is decoded to its reading, whatever its high four
bits; a reading is packed to its two bytes, neither with an event; a select pattern is driven on the lines. -/
def Obligations.DataWordsConvert : Prop :=
  ∀ (hi sel : BitVec 4) (v : Reading) (s : State),
    exec (.adcAnswer hi v) s = .next (settle s.agenda
      { s with ret := .reading v, rx := [BitVec.ofNat 8 (hi.toNat * 16 + v.toNat / 256), BitVec.ofNat 8 v.toNat] }) ∧
    exec (.rd16Word v) s = .next (settle s.agenda
      { s with ret := .bytes [BitVec.ofNat 8 (v.toNat / 256), BitVec.ofNat 8 v.toNat] }) ∧
    (s.Calm → ∃ e, exec (.muxPattern sel) s = .next (settle s.agenda
      { s with env := e, muxsel := sel, trace := s.trace ++ [.mux sel] }))

/-- R86: the burst `[0x80 | (a << 4), ADC_FILL]` with the 1 µs setup wait, then `((rx[0] & 0x0F) << 8) | rx[1]` is
returned. -/
def Obligations.ReadAdcReturnsTheReading : Prop :=
  ∀ a : BitVec 3,
    AdcCommandRuns (.readAdc a) (fun p => [0x80 ||| (a.setWidth 8 <<< 4), p.adcFill])
      (fun rs t => { t with ret := .reading (answerOf rs) })

/-- R88: "`ReadDirect(i): x[i] <- ReadAdc(i + 1)`", the multiplexer untouched, with pc as R18. -/
def Obligations.DirectReadsRun : Prop :=
  ReadRuns .readDirect0 0 ∧ ReadRuns .readDirect1 1 ∧ ReadRuns .readDirect2 2 ∧ ReadRuns .readDirect3 3 ∧
  ReadRuns .readDirect4 4 ∧ ReadRuns .readDirect5 5 ∧ ReadRuns .readDirect6 6

/-- R89: `SetMux(i - 7)`, `Wait(T_MUX_SETTLE)`, `x[i] <- ReadAdc(0)`, with pc as R18. -/
def Obligations.MuxedReadsRun : Prop :=
  ReadRuns .readMuxed7 7 ∧ ReadRuns .readMuxed8 8 ∧ ReadRuns .readMuxed9 9 ∧ ReadRuns .readMuxed10 10 ∧
  ReadRuns .readMuxed11 11 ∧ ReadRuns .readMuxed12 12 ∧ ReadRuns .readMuxed13 13 ∧ ReadRuns .readMuxed14 14 ∧
  ReadRuns .readMuxed15 15 ∧ ReadRuns .readMuxed16 16 ∧ ReadRuns .readMuxed17 17 ∧ ReadRuns .readMuxed18 18 ∧
  ReadRuns .readMuxed19 19 ∧ ReadRuns .readMuxed20 20 ∧ ReadRuns .readMuxed21 21 ∧ ReadRuns .readMuxed22 22

/-- R90, R91: SAMPLE_ALL marks the 23 registers unwritten, then reads the 23 channels in ascending logical index, pc at
(P_SAMPLE, k) when the k channels before it are read; all 23 registers are written, whatever they held; 216 events, 823 µs
of waits, the select lines left at 15, pc at P_CLOCK. -/
def Obligations.SampleAllWritesTheFrame : Prop :=
  ∀ (s : State) (rs : List Byte), s.heldA = false → s.NoFault 216 → s.Grants 23 .busA → s.Answers rs → rs.length = 46 →
    (sampleEvents s.params rs).length = 216 ∧
    (∃ t, exec .sampleAll s = .next t ∧ t.pc = pcWord .sample 0 ∧ ∀ i : Fin 23, t.x[i] = none) ∧
    (∀ k : Nat, 1 ≤ k → k ≤ 22 → ∃ t, RunsTo .sampleAll (8 * k + 2 * (k - 7) - 1) s t ∧ t.pc = pcWord .sample k) ∧
    ∃ e, RunsTo .sampleAll 215 s
      (settle s.agenda
        { s with env := e, x := Vector.ofFn fun i : Fin 23 => some (sampledReading rs i.val), rx := rs.drop 44,
                 ret := .reading (sampledReading rs 22), cfgvA := true, adcCsn := true, muxsel := 15,
                 waited := s.waited + 823, pc := pcWord .clock 0, trace := s.trace ++ sampleEvents s.params rs })

/-! ### The CAN Link Driver -/

/-- The command words of bus B (R59, R60, R64), each sent as one burst without a setup wait (log 16), and what the block
has written to the controller afterwards (R27, log 17): the reset opcode, a write of any register, the five writes of R97, the
request-to-send. -/
def Obligations.CanCommandWordsSend : Prop :=
  CanCommandRuns .canResetCmd (fun p => [p.opReset]) (fun _ t => t) ∧
  (∀ a v : Byte, CanCommandRuns (.canWriteCmd a v) (fun p => [p.opWrite, a, v])
    (fun _ t => { t with canRegs := t.canRegs.set a.toNat v })) ∧
  CanCommandRuns .canWriteCmdW1 (fun p => [p.opWrite, p.regCtrl, p.modeConfig])
    (fun p t => { t with canRegs := t.canRegs.set p.regCtrl.toNat p.modeConfig }) ∧
  (∀ v : Byte, CanCommandRuns (.canWriteCmdW2 v) (fun p => [p.opWrite, p.regCnf3, v])
    (fun p t => { t with canRegs := t.canRegs.set p.regCnf3.toNat v })) ∧
  (∀ v : Byte, CanCommandRuns (.canWriteCmdW3 v) (fun p => [p.opWrite, p.regCnf2, v])
    (fun p t => { t with canRegs := t.canRegs.set p.regCnf2.toNat v })) ∧
  (∀ v : Byte, CanCommandRuns (.canWriteCmdW4 v) (fun p => [p.opWrite, p.regCnf1, v])
    (fun p t => { t with canRegs := t.canRegs.set p.regCnf1.toNat v })) ∧
  CanCommandRuns .canWriteCmdW5 (fun p => [p.opWrite, p.regCtrl, p.modeNormal])
    (fun p t => { t with canRegs := t.canRegs.set p.regCtrl.toNat p.modeNormal }) ∧
  CanCommandRuns .canRts0Cmd (fun p => [p.opRts0]) (fun _ t => t)

/-- R101: the load of transmit buffer 0 is one burst of 6 + len bytes, or, where TX_LOAD_SPLIT is true, a burst of the
opcode and a burst of 5 + len bytes. -/
def Obligations.LoadWordSends : Prop :=
  ∀ (id : BitVec 11) (data rs : List Byte) (s : State), data.length ≤ 8 → rs.length = 6 + data.length →
    s.heldB = false → s.CalmFor 24 → s.Grants 2 .busB → s.Answers rs →
    (loadEvents s.params id data rs).length = data.length + (if s.params.txLoadSplit then 16 else 11) ∧
    ∃ e, RunsTo (.canLoadTx0Cmd id data) ((loadEvents s.params id data rs).length - 1) s
      (settle s.agenda
        { s with env := e, rx := if s.params.txLoadSplit then rs.drop 1 else rs, cfgvB := true, canCsn := true,
                 txb0 := s.txb0.setList 0 (loadHeader id data.length ++ data),
                 trace := s.trace ++ loadEvents s.params id data rs })

/-- R95: CAN_RESET makes the driver Resetting, emits the reset burst and `WAIT(10000)`, seven events, and leaves it
Configuring and pc at P_CAN_CFG (R18), from any state of the driver (R94). -/
def Obligations.CanResetRuns : Prop :=
  ∀ (s : State) (rs : List Byte), s.heldB = false → s.CalmFor 7 → s.Grants 1 .busB → s.Answers rs → rs.length = 1 →
    (∃ t, exec .canReset s = .next t ∧ t.canst = .resetting) ∧
    ∃ e, RunsTo .canReset 6 s
      (settle s.agenda
        { s with env := e, canst := .configuring, pc := pcWord .canCfg 0, rx := rs, cfgvB := true, canCsn := true,
                 waited := s.waited + 10000, trace := s.trace ++ resetEvents s.params rs })

/-- R96 with the five address and value pairs of R97: each write is one burst `[OP_WRITE, a, v]`, eight events. -/
def Obligations.ConfigurationWritesRun : Prop :=
  ConfigurationWriteRuns .cfgWrite1 0 ∧ ConfigurationWriteRuns .cfgWrite2 1 ∧ ConfigurationWriteRuns .cfgWrite3 2 ∧
  ConfigurationWriteRuns .cfgWrite4 3 ∧ ConfigurationWriteRuns .cfgWrite5 4

/-- R97: CAN_CONFIGURE makes the driver Configuring and the five writes in order, pc at (P_CAN_CFG, k) when the k writes before
are done, and leaves the driver Operational and pc at P_SCHED_INIT (R18), whatever state it was in (R94); 40 events, the
"5 x 8" of R99, a count that the spec derives. -/
def Obligations.CanConfigureRuns : Prop :=
  ∀ (s : State) (rs : List Byte), s.heldB = false → s.NoFault 40 → s.Grants 5 .busB → s.Answers rs → rs.length = 15 →
    (configureEvents s.params rs).length = 40 ∧
    (∃ t, exec .canConfigure s = .next t ∧ t.pc = pcWord .canCfg 0 ∧ t.canst = .configuring) ∧
    (∀ k : Nat, 1 ≤ k → k ≤ 4 →
      ∃ t, RunsTo .canConfigure (8 * k - 1) s t ∧ t.pc = pcWord .canCfg k ∧ t.canst = .configuring) ∧
    ∃ e, RunsTo .canConfigure 39 s
      (settle s.agenda
        { s with env := e, canst := .operational, pc := pcWord .schedInit 0, rx := rs.drop 12, cfgvB := true,
                 canCsn := true, canRegs := configuredRegs s.params s.canRegs,
                 trace := s.trace ++ configureEvents s.params rs })

/-- R99: CAN_INIT is `pc <- (P_CAN_RESET, 0)`, CAN_RESET, then CAN_CONFIGURE: 47 events, "the whole bring-up from reset to
operational mode". -/
def Obligations.CanInitRuns : Prop :=
  ∀ (s : State) (rs : List Byte), s.heldB = false → s.NoFault 47 → s.Grants 6 .busB → s.Answers rs → rs.length = 16 →
    (resetEvents s.params (rs.take 1) ++ configureEvents s.params (rs.drop 1)).length = 47 ∧
    (∃ t, exec .canInit s = .next t ∧ t.pc = pcWord .canReset 0 ∧ t.canst = .resetting) ∧
    ∃ e, RunsTo .canInit 46 s
      (settle s.agenda
        { s with env := e, canst := .operational, pc := pcWord .schedInit 0, rx := rs.drop 13, cfgvB := true,
                 canCsn := true, canRegs := configuredRegs s.params s.canRegs, waited := s.waited + 10000,
                 trace := s.trace ++ (resetEvents s.params (rs.take 1) ++ configureEvents s.params (rs.drop 1)) })

/-- R35, R27, R28 through the read of one byte (log 17): a register write changes the byte at its address and nothing else
the block has written to the controller; a load changes the header bytes and the data bytes of transmit buffer 0 and
nothing else. -/
def Obligations.ControllerWritesTouchOnlyTheirBytes : Prop :=
  (∀ (a v : Byte) (s : State) (rs : List Byte), s.agenda = [] → s.heldB = false → s.CalmFor 8 → s.Grants 1 .busB →
    s.Answers rs → rs.length = 3 →
    ∃ t, RunsTo (.canWriteCmd a v) 7 s t ∧ t.txb0 = s.txb0 ∧
      ∀ b : Nat, t.canRegs.get b = if b = a.toNat then some v else s.canRegs.get b) ∧
  (∀ (id : BitVec 11) (data rs : List Byte) (s : State), s.agenda = [] → data.length ≤ 8 → rs.length = 6 + data.length →
    s.heldB = false → s.CalmFor 24 → s.Grants 2 .busB → s.Answers rs →
    ∃ t, RunsTo (.canLoadTx0Cmd id data) ((loadEvents s.params id data rs).length - 1) s t ∧ t.canRegs = s.canRegs ∧
      ∀ j : Nat, t.txb0.get j =
        if j < 5 + data.length then (loadHeader id data.length ++ data)[j]? else s.txb0.get j)

/-- R103 with R101 and R102: SEND_FRAME of a legal identifier and at most 8 bytes, in an Operational driver, sends the load
and the request-to-send, 17 + len events (22 + len where TX_LOAD_SPLIT, counts that the spec derives from R84), and returns
Ok. -/
def Obligations.SendFrameSends : Prop :=
  ∀ (id : BitVec 16) (data rs : List Byte) (s : State), s.canst = .operational → id.toNat ≤ 0x7FF → data.length ≤ 8 →
    rs.length = 7 + data.length → s.heldB = false → s.CalmFor 30 → s.Grants 3 .busB → s.Answers rs →
    (frameEvents s.params (id.setWidth 11) data rs).length = data.length + (if s.params.txLoadSplit then 22 else 17) ∧
    ∃ e, RunsTo (.sendFrame id data) ((frameEvents s.params (id.setWidth 11) data rs).length - 1) s
      (settle s.agenda
        { s with env := e, rx := rs.drop (6 + data.length), ret := .ok, cfgvB := true, canCsn := true,
                 txb0 := s.txb0.setList 0 (loadHeader (id.setWidth 11) data.length ++ data),
                 trace := s.trace ++ frameEvents s.params (id.setWidth 11) data rs })

/-- R100 and R106 with R11: a driver that is not Operational refuses (the mark, no event); then the identifier is tested, then
the length; "A rejected call emits no event and changes no state", it returns the error. The six chunk rows, SEND_READINGS and
a due TX_IF_DUE, which ask for SEND_FRAME, are refused as it is, pc at their chunk and PAY packed. That a refusal answers a
next state, drops what is in progress and empties `ret` is the model's choice (log 8). -/
def Obligations.SendFrameRejects : Prop :=
  ∀ (id : BitVec 16) (data : List Byte) (s : State),
    (s.canst ≠ .operational →
      exec (.sendFrame id data) s = .next { s with refused := true, ret := .nothing, agenda := [] } ∧
      (∀ (k : Nat) (i : Instr), chunkRows[k]? = some i →
        exec i s = .next { s with pc := pcWord .tx k, refused := true, ret := .nothing, agenda := [] }) ∧
      ∀ v : List Reading, s.frame = some v →
        let t := { s with pay := Vector.ofFn fun j : Fin 46 => (payloadOf v)[j.val]?, payLive := true, pc := pcWord .tx 0,
                          refused := true, ret := .nothing, agenda := [] }
        exec .sendReadings s = .next t ∧
        ∀ now last : Nat, s.now = some now → s.lastTx = some last → 500000 ≤ now - last → exec .txIfDue s = .next t) ∧
    (s.canst = .operational → 0x7FF < id.toNat →
      exec (.sendFrame id data) s = .next (settle s.agenda { s with ret := .txError (.idOutOfRange id) })) ∧
    (s.canst = .operational → id.toNat ≤ 0x7FF → 8 < data.length →
      exec (.sendFrame id data) s = .next (settle s.agenda { s with ret := .txError (.payloadTooLong data.length) }))

/-! ### The Cyclic Scheduler -/

/-- R109 and R112: SCHED_INIT reads the clock once and writes LAST_STORE and LAST_TX; READ_CLOCK reads it once and writes
NOW and TS. The value is at least the last one returned plus the waits since: laws 1 and 2 of R110, of which the model keeps
law 2 by choice (log 13), since R110 lets a model drop it. -/
def Obligations.ClockReadsLatchOneValue : Prop :=
  ∀ s : State, s.Calm →
    (∀ l, s.lastClk = some l → l + s.waited ≤ s.passed.clockIn) ∧ ∃ e,
    exec .schedInit s = .next (settle s.agenda
      { s with env := e, lastStore := some s.passed.clockIn, lastTx := some s.passed.clockIn,
               lastClk := some s.passed.clockIn, waited := 0, pc := pcWord .stopCheck 0,
               trace := s.trace ++ [.clk s.passed.clockIn] }) ∧
    exec .readClock s = .next (settle s.agenda
      { s with env := e, now := some s.passed.clockIn, ts := some s.passed.clockIn,
               lastClk := some s.passed.clockIn, waited := 0, pc := pcWord .store 0,
               trace := s.trace ++ [.clk s.passed.clockIn] })

/-- R111: the stop signal is sampled once; "with `stop` false the event is `STOPQ(false)` and the block goes to P_SAMPLE;
with `stop` true, `STOPQ(true)` and P_SHUTDOWN". -/
def Obligations.StopCheckSamplesStop : Prop :=
  ∀ s : State, s.Calm → ∃ e,
    exec .stopCheck s = .next (settle s.agenda
      { s with env := e, pc := if s.passed.stopIn = true then pcWord .shutdown 0 else pcWord .sample 0,
               trace := s.trace ++ [.stopq s.passed.stopIn] })

/-- R113: where `NOW - LAST_STORE >= 1000000` the sink is invoked with TS and the 23 readings and LAST_STORE is NOW
whatever it answers; where not, "nothing is emitted and nothing changes" but pc (R18). -/
def Obligations.StoreIfDueStores : Prop :=
  ∀ (s : State) (now last ts : Nat) (v : List Reading), s.now = some now → s.lastStore = some last → s.ts = some ts →
    s.frame = some v →
    (now - last < 1000000 → exec .storeIfDue s = .next (settle s.agenda { s with pc := pcWord .tx 0 })) ∧
    (1000000 ≤ now - last → s.Calm → ∃ e,
      exec .storeIfDue s = .next (settle s.agenda
        { s with env := e, lastStore := some now, pc := pcWord .tx 0,
                 trace := s.trace ++ [.store ts v s.passed.storeIn] }))

/-- R114: where `NOW - LAST_TX >= 500000` the six frames are sent and LAST_TX is that NOW; where not, nothing is emitted and
the phase ends (R18). That the bytes stay in the staging buffer as a value no more is the model's reading (log 18). -/
def Obligations.TxIfDueSends : Prop :=
  ∀ (s : State) (now last : Nat) (v : List Reading) (rs : List Byte), s.now = some now → s.lastTx = some last →
    (now - last < 500000 → exec .txIfDue s = .next (settle s.agenda { s with pc := pcWord .sleep 0 })) ∧
    (500000 ≤ now - last → s.frame = some v → s.canst = .operational → s.heldB = false → s.NoFault 184 →
      s.Grants 18 .busB → s.Answers rs → rs.length = 88 →
      ∃ e, RunsTo .txIfDue ((sendEvents s.params (payloadOf v) rs).length - 1) s
        (settle s.agenda { sentReadings s v rs e with lastTx := some now }))

/-- R115: `WAIT(100000)`, then the next iteration (R18). -/
def Obligations.LoopSleepWaits : Prop :=
  ∀ s : State, s.Calm → ∃ e,
    exec .loopSleep s = .next (settle s.agenda
      { s with env := e, waited := s.waited + 100000, pc := pcWord .stopCheck 0, trace := s.trace ++ [.wait 100000] })

/-- R116: `UNMOUNT`, and "after a stop it is followed by P_STOPPED, after a loop fault by P_FAILED"; nothing is done to the
peripherals. -/
def Obligations.ShutdownUnmounts : Prop :=
  ∀ s : State, s.Calm → ∃ e,
    exec .shutdown s = .next (settle s.agenda
      { s with env := e, pc := if s.fault = none then pcWord .stopped 0 else pcWord .failed 0,
               trace := s.trace ++ [.unmount] })

/-- R155 and R18: in P_IDLE the block does nothing until RUN is started, which takes pc to (P_CAN_RESET, 0). -/
def Obligations.RunIsTheOnlyEntry : Prop :=
  ∀ s : State,
    (s.pc = pcWord .idle 0 → exec .run s = .next (settle s.agenda { s with pc := pcWord .canReset 0 })) ∧
    (s.startIn = true → ∃ e, exec .pIdle s = .next { s with env := e, pc := pcWord .canReset 0 }) ∧
    (s.startIn = false → ∃ e, exec .pIdle s = .next { s with env := e })

/-- R117, R143: P_STOPPED and P_FAILED have no step. -/
def Obligations.FinalStatesHaveNoStep : Prop :=
  ∀ s : State,
    exec .pStopped s = .fault .stopped ∧ exec .pFailed s = .fault .failed ∧
    (s.agenda = [] → s.pc = pcWord .stopped 0 → step s = .fault .stopped) ∧
    (s.agenda = [] → s.pc = pcWord .failed 0 → step s = .fault .failed)

/-! ### Frame splitting -/

/-- R123: PACK writes the 46 bytes of the readings, big-endian, in ascending logical index, and nothing else; PAY holds a
value from here on (R26). -/
def Obligations.PackWritesBigEndian : Prop :=
  ∀ (s : State) (v : List Reading), s.frame = some v →
    v.length = 23 ∧ (payloadOf v).length = 46 ∧
    exec .pack s = .next (settle s.agenda
      { s with pay := Vector.ofFn fun j : Fin 46 => (payloadOf v)[j.val]?, payLive := true })

/-- R124: SPLIT k returns `PAY[8k .. min(8k+7, 45)]`: "Chunks 0 to 4 have 8 bytes; chunk 5 has 6 bytes". -/
def Obligations.SplitReturnsTheChunk : Prop :=
  ∀ (s : State) (payload : List Byte) (k : Fin 6), allWritten s.payload.toList = some payload →
    (chunkOf payload k.val).length = (if k.val < 5 then 8 else 6) ∧
    (∀ j : Nat, j < (chunkOf payload k.val).length → (chunkOf payload k.val)[j]? = payload[8 * k.val + j]?) ∧
    exec (.split k) s = .next (settle s.agenda { s with ret := .bytes (chunkOf payload k.val) })

/-- The six chunks of R126: `pc <- (P_TX, k)`, `SendFrame(0x100 + k, Split(k))`, the wait, and pc as R18. -/
def Obligations.ChunkRowsRun : Prop :=
  ChunkRuns .sendChunk0 0 ∧ ChunkRuns .sendChunk1 1 ∧ ChunkRuns .sendChunk2 2 ∧ ChunkRuns .sendChunk3 3 ∧
  ChunkRuns .sendChunk4 4 ∧ ChunkRuns .sendChunk5 5

/-- R126 with R127: SEND_READINGS packs once and sends the six frames in chunk order, pc at (P_TX, k) when the k chunks
before are sent; 154 events with the defaults, one less without the last wait, 30 more where TX_LOAD_SPLIT. After it PAY holds
no value (R26), so that a SPLIT is a read of unwritten bytes; the bytes stay where they are, as the model's reading (log 18). -/
def Obligations.SendReadingsSendsSixFrames : Prop :=
  ∀ (s : State) (v : List Reading) (rs : List Byte), s.frame = some v → s.canst = .operational → s.heldB = false →
    s.NoFault 184 → s.Grants 18 .busB → s.Answers rs → rs.length = 88 →
    (sendEvents s.params (payloadOf v) rs).length =
      153 + (if s.params.ifdAfterLast then 1 else 0) + (if s.params.txLoadSplit then 30 else 0) ∧
    (∃ t, exec .sendReadings s = .next t ∧ t.pc = pcWord .tx 0) ∧
    (∀ k : Nat, 1 ≤ k → k ≤ 5 →
      ∃ t, RunsTo .sendReadings (k * (if s.params.txLoadSplit then 31 else 26) - 1) s t ∧ t.pc = pcWord .tx k) ∧
    ∃ e, RunsTo .sendReadings ((sendEvents s.params (payloadOf v) rs).length - 1) s
      (settle s.agenda (sentReadings s v rs e)) ∧
    ∀ k : Fin 6, chunk (sentReadings s v rs e).payload k.val = none

/-- R128: the payloads of the six frames, in identifier order, concatenated and read as 23 big-endian words, are the
readings. -/
def Obligations.ReceiverRecoversTheReadings : Prop :=
  ∀ v : List Reading, v.length = 23 →
    receivedWords ((List.range 6).flatMap (chunkOf (payloadOf v))) = v.map BitVec.toNat

/-- R71, R75 with R126: with the default opcodes and the load in one burst, the bursts of bus B in the trace of one
SEND_READINGS decode, one command a burst, to the six loads with identifiers 0x100 to 0x105 and the six requests to send. -/
def Obligations.TransmittedBurstsDecode : Prop :=
  ∀ (p : Config.Params) (v : List Reading) (rs : List Byte), v.length = 23 → rs.length = 88 →
    p.opLoadTx0 = Config.defOpLoadTx0 → p.opRts0 = Config.defOpRts0 → p.txLoadSplit = false →
    (burstBytes (sendEvents p (payloadOf v) rs) none).map (decode .busB) =
      (List.range 6).flatMap fun k =>
        [.ok (.canLoadTx0Cmd (BitVec.ofNat 11 (0x100 + k)) (chunkOf (payloadOf v) k)), .ok .canRts0Cmd]

/-! ### The fault path -/

/-- R139 (with R138 and R142 (1), (3)): of every operation that emits, a condition signalled at its first boundary, in a phase
from P_CAN_RESET to P_SLEEP, is taken before its event: FAULT with its cause, the operation in progress abandoned, pc at
P_SHUTDOWN, and no register changed from what it is at that boundary (`atFirstBoundary`, with what the rule writes before its
first event, log 20) but the pins and locks, which are unspecified from then on; then `LOG(c)`, `UNMOUNT`,
`pc = (P_FAILED, 0)`, and there it ends (R143). A later boundary of an operation is the first one of an operation that is in
progress. That CFGV (log 7) and the value of PAY (log 18) stay is the model's reading. -/
def Obligations.LoopFaultRunsTheFaultPath : Prop :=
  ∀ (s u : State) (i : Instr) (c : Nat), atFirstBoundary s i = some u → u.window = .running →
    [some c, none, none] <+: s.env.fault →
    ∃ t e, exec i s = .next t ∧ FaultTaken (.signalled c) u t ∧
      let v := { t with env := e, pc := pcWord .failed 0, agenda := [],
                        trace := s.trace ++ [.log (.signalled c), .unmount] }
      Host.Core.run Sys2Proof.core 2 t = .next v ∧ step v = .fault .failed

/-- R139: "every event before the boundary was emitted in full and none after it": whatever the block is in the middle of,
a step at whose boundary a condition is signalled emits no event; it takes the loop fault whole, or, being one of the steps
without an event, which have no boundary, leaves FAULT alone. -/
def Obligations.NoEventAtASignalledBoundary : Prop :=
  ∀ (s t : State) (c : Nat), s.window = .running → s.faultIn = some c → step s = .next t →
    t.trace = s.trace ∧
    (t.fault = s.fault ∨
      (t.fault = some (.signalled c) ∧ t.pc = pcWord .shutdown 0 ∧ t.agenda = [.log (.signalled c)]))

/-- R141: a condition signalled during `Log` or `Unmount`, on the fault path or on the stop path, "ends the run at once in
`pc = (P_FAILED, 0)` with `FAULT` set". That it is taken before the event, so that nothing is emitted, is the model's reading
(log 20; R141 says that `UNMOUNT` may then be missing), and that P_FAILED, which has no step (R143), is a fault by name is the
model's (log 9). -/
def Obligations.SecondConditionEndsTheRun : Prop :=
  ∀ (s : State) (c : Nat), s.pc = pcWord .shutdown 0 → (s.agenda = [] ∨ ∃ d, s.agenda = [.log d]) →
    s.faultIn = some c →
    ∃ t, step s = .next t ∧ t.pc = pcWord .failed 0 ∧ t.agenda = [] ∧ t.trace = s.trace ∧ t.fault ≠ none ∧
      step t = .fault .failed

/-! ### The whole machine -/

/-- R6, R47: a step is at most one event, appended to the trace. -/
def Obligations.AtMostOneEventPerStep : Prop :=
  ∀ s t : State, step s = .next t → t.trace = s.trace ∨ ∃ e, t.trace = s.trace ++ [e]

/-- R32 and R4: no step clears FAULT or REFUSED, and none changes a parameter. -/
def Obligations.MarksAndParametersStay : Prop :=
  ∀ s t : State, step s = .next t →
    (s.fault ≠ none → t.fault ≠ none) ∧ (s.refused = true → t.refused = true) ∧ t.params = s.params

/-- R35, log 17: every step keeps what the block has written to the CAN controller in its canonical form. -/
def Obligations.ControllerMapsStayCanonical : Prop :=
  ∀ s t : State, s.canRegs.wf → s.txb0.wf → step s = .next t → t.canRegs.wf ∧ t.txb0.wf

/-- R110: every step keeps laws 1 and 2 of the clock over the whole trace; they hold at reset. -/
def Obligations.ClockObeysItsLaws : Prop :=
  State.reset.ClockInv ∧ ∀ s t : State, s.ClockInv → step s = .next t → t.ClockInv

/-- R118: every step keeps consecutive stores at least 1000000 µs apart by the clock. "The same holds for transmissions with
500000": a step keeps what carries it, and LAST_TX, which holds the NOW of the last transmission, moves outside SCHED_INIT only
to a NOW at least 500000 after its old value. Both hold at reset. -/
def Obligations.StoresAreAPeriodApart : Prop :=
  State.reset.StoreInv ∧ State.reset.TxInv ∧ (∀ s t : State, s.StoreInv → step s = .next t → t.StoreInv) ∧
  ∀ s t : State, s.TxInv → step s = .next t → t.TxInv ∧ TxMoves s t

/-- The invariant holds at reset. -/
def Obligations.InvariantHoldsAtReset : Prop := State.reset.Inv

/-- AN INVARIANT THAT EVERY STEP KEEPS: R34, with what carries it. -/
def Obligations.StepKeepsTheInvariant : Prop := ∀ s t : State, s.Inv → step s = .next t → t.Inv

/-- From every state that meets the invariant the machine goes on: a step stops in P_STOPPED and P_FAILED alone, so no
"Requires" clause fails, no unwritten register is read and no step's outcome is a refusal (that the mark REFUSED stays false is
`StepKeepsTheInvariant`). A step that answers a next state at a busy Acquire, where R50 gives the block no step and R152 (3)
speaks of a hang, is the model's choice (logs 1, 14), as is the idle step of P_IDLE before RUN is started (logs 1, 2): this
says nothing of progress past either. -/
def Obligations.InvariantRunsOn : Prop :=
  ∀ s : State, s.Inv →
    (∃ t, step s = .next t) ∨
    (s.pc = pcWord .stopped 0 ∧ s.agenda = [] ∧ step s = .fault .stopped) ∨
    (s.pc = pcWord .failed 0 ∧ s.agenda = [] ∧ step s = .fault .failed)

/-- R34 (1) to (6), of every state that meets the invariant and in which no fault has been taken (after a loop fault the
pins and locks are unspecified, R139). Of (4), a phase boundary is where nothing is in progress, and inside P_CAN_CFG, P_SAMPLE
and P_TX where the next index's step row comes. -/
def Obligations.InvariantGivesTheSpecsInvariants : Prop :=
  ∀ s : State, s.Inv → s.fault = none →
    s.BusSafe ∧ (s.agenda = [] → s.BusQuiet) ∧
    (∀ (i : Instr) (rest : List Frame), s.agenda = .op i :: rest → i ∈ cfgRows ++ sampleRows ++ chunkRows → s.BusQuiet) ∧
    (∀ p, pcPhase s.pc = some p → 3 ≤ phaseCode p → s.canst = .operational) ∧
    (∀ l n, s.lastStore = some l → s.now = some n → l ≤ n) ∧ (∀ l n, s.lastTx = some l → s.now = some n → l ≤ n)

/-- R18: from every state that meets the invariant, pc moves along the table: it stays, goes to a next row, goes to
P_SHUTDOWN because a loop fault is raised, or goes from P_SHUTDOWN to P_FAILED with one; to P_STOPPED without one. -/
def Obligations.PhaseRegisterFollowsTheTable : Prop :=
  ∀ s t : State, s.Inv → step s = .next t →
    (t.pc = s.pc ∨ phaseEdge s.pc t.pc = true ∨
      (s.window = .running ∧ t.pc = pcWord .shutdown 0 ∧ t.fault ≠ none) ∨
      (s.pc = pcWord .shutdown 0 ∧ t.pc = pcWord .failed 0 ∧ t.fault ≠ none)) ∧
    (t.pc = pcWord .stopped 0 → t.fault = none)

/-- R31 and R153: every entry of the reset table that gives a value, at State.reset and after `reset` from any state. -/
def Obligations.ResetPutsTheTable : Prop :=
  State.reset.AtReset ∧ ∀ s : State, s.resetPort.AtReset
end

