-- ==== Sys2Proof/Laws/Memory.lean ====
section
/-! SUPPORT. Laws of the byte maps: a read after a write, and that every operation keeps the canonical form. -/

namespace Sys2Proof.Machine

@[simp] theorem Mem.get_nil (a : Nat) : Mem.get [] a = none := rfl

/-- A read of the address just written gives the byte written. -/
@[simp] theorem Mem.get_set_same (m : Mem) (a : Nat) (v : Byte) : (m.set a v).get a = some v := by
  induction m with
  | nil => simp [Mem.set, Mem.get]
  | cons h t ih =>
    obtain ⟨b, u⟩ := h
    unfold Mem.set
    split
    · simp [Mem.get]
    · split
      · simp [Mem.get]
      · next h1 h2 => simp [Mem.get, h2, ih]

/-- A write leaves every other address alone. -/
theorem Mem.get_set_other (m : Mem) {a b : Nat} (v : Byte) (h : b ≠ a) : (m.set a v).get b = m.get b := by
  induction m with
  | nil => simp [Mem.set, Mem.get, h]
  | cons e t ih =>
    obtain ⟨c, u⟩ := e
    unfold Mem.set
    split
    · simp [Mem.get, h]
    · split
      · next h2 => subst h2; simp [Mem.get, h]
      · simp [Mem.get, ih]

/-- The addresses a write lists: the old ones and the one written. -/
theorem Mem.mem_keys_set {m : Mem} {a k : Nat} {v : Byte} (h : k ∈ (m.set a v).map Prod.fst) :
    k = a ∨ k ∈ m.map Prod.fst := by
  induction m with
  | nil => simpa [Mem.set] using h
  | cons e t ih =>
    obtain ⟨c, u⟩ := e
    unfold Mem.set at h
    split at h
    · simpa using h
    · split at h
      · next h2 => subst h2; simp at h ⊢; tauto
      · simp only [List.map_cons, List.mem_cons] at h ⊢
        rcases h with h | h
        · exact .inr (.inl h)
        · rcases ih h with h | h
          · exact .inl h
          · exact .inr (.inr h)

/-- A write keeps the canonical form. -/
theorem Mem.wf_set {m : Mem} (a : Nat) (v : Byte) (h : m.wf) : (m.set a v).wf := by
  induction m with
  | nil => simp [Mem.set, Mem.wf]
  | cons e t ih =>
    obtain ⟨c, u⟩ := e
    simp only [Mem.wf, List.map_cons, List.pairwise_cons] at h
    unfold Mem.set
    split
    · next h1 =>
      simp only [Mem.wf, List.map_cons, List.pairwise_cons, List.mem_cons]
      refine ⟨?_, h.1, h.2⟩
      rintro k (rfl | hk)
      · exact h1
      · exact Nat.lt_trans h1 (h.1 k hk)
    · split
      · next h2 =>
        subst h2
        simpa [Mem.wf] using h
      · next h1 h2 =>
        simp only [Mem.wf, List.map_cons, List.pairwise_cons]
        refine ⟨?_, ih h.2⟩
        intro k hk
        rcases Mem.mem_keys_set hk with rfl | hk
        · omega
        · exact h.1 k hk

/-- Writing a list of bytes keeps the canonical form. -/
theorem Mem.wf_setList {m : Mem} (a : Nat) (l : List Byte) (h : m.wf) : (m.setList a l).wf := by
  induction l generalizing m a with
  | nil => exact h
  | cons v t ih => exact ih (a + 1) (Mem.wf_set a v h)

/-- The maps at reset are canonical. -/
theorem reset_memory_wf : State.reset.canRegs.wf ∧ State.reset.txb0.wf := by
  simp [State.reset, Mem.wf]

end Sys2Proof.Machine
end

