-- ==== Sys2Proof/Laws/State.lean ====
section
/-! SUPPORT. One lemma per field per update of State, so that no later proof unfolds a record update. -/

namespace Sys2Proof.Machine

/-! ### emit -/

@[simp] theorem State.emit_x (s : State) (e : Event) : (s.emit e).x = s.x := rfl
@[simp] theorem State.emit_ts (s : State) (e : Event) : (s.emit e).ts = s.ts := rfl
@[simp] theorem State.emit_now (s : State) (e : Event) : (s.emit e).now = s.now := rfl
@[simp] theorem State.emit_pc (s : State) (e : Event) : (s.emit e).pc = s.pc := rfl
@[simp] theorem State.emit_lastStore (s : State) (e : Event) : (s.emit e).lastStore = s.lastStore := rfl
@[simp] theorem State.emit_lastTx (s : State) (e : Event) : (s.emit e).lastTx = s.lastTx := rfl
@[simp] theorem State.emit_canst (s : State) (e : Event) : (s.emit e).canst = s.canst := rfl
@[simp] theorem State.emit_muxsel (s : State) (e : Event) : (s.emit e).muxsel = s.muxsel := rfl
@[simp] theorem State.emit_adcCsn (s : State) (e : Event) : (s.emit e).adcCsn = s.adcCsn := rfl
@[simp] theorem State.emit_canCsn (s : State) (e : Event) : (s.emit e).canCsn = s.canCsn := rfl
@[simp] theorem State.emit_heldA (s : State) (e : Event) : (s.emit e).heldA = s.heldA := rfl
@[simp] theorem State.emit_heldB (s : State) (e : Event) : (s.emit e).heldB = s.heldB := rfl
@[simp] theorem State.emit_cfgvA (s : State) (e : Event) : (s.emit e).cfgvA = s.cfgvA := rfl
@[simp] theorem State.emit_cfgvB (s : State) (e : Event) : (s.emit e).cfgvB = s.cfgvB := rfl
@[simp] theorem State.emit_pay (s : State) (e : Event) : (s.emit e).pay = s.pay := rfl
@[simp] theorem State.emit_payLive (s : State) (e : Event) : (s.emit e).payLive = s.payLive := rfl
@[simp] theorem State.emit_fault (s : State) (e : Event) : (s.emit e).fault = s.fault := rfl
@[simp] theorem State.emit_refused (s : State) (e : Event) : (s.emit e).refused = s.refused := rfl
@[simp] theorem State.emit_trace (s : State) (e : Event) : (s.emit e).trace = s.trace ++ [e] := rfl
@[simp] theorem State.emit_agenda (s : State) (e : Event) : (s.emit e).agenda = s.agenda := rfl
@[simp] theorem State.emit_rx (s : State) (e : Event) : (s.emit e).rx = s.rx := rfl
@[simp] theorem State.emit_ret (s : State) (e : Event) : (s.emit e).ret = s.ret := rfl
@[simp] theorem State.emit_lastClk (s : State) (e : Event) : (s.emit e).lastClk = s.lastClk := rfl
@[simp] theorem State.emit_waited (s : State) (e : Event) : (s.emit e).waited = s.waited := rfl
@[simp] theorem State.emit_canRegs (s : State) (e : Event) : (s.emit e).canRegs = s.canRegs := rfl
@[simp] theorem State.emit_txb0 (s : State) (e : Event) : (s.emit e).txb0 = s.txb0 := rfl
@[simp] theorem State.emit_env (s : State) (e : Event) : (s.emit e).env = s.env := rfl
@[simp] theorem State.emit_params (s : State) (e : Event) : (s.emit e).params = s.params := rfl

/-! ### push -/

@[simp] theorem State.push_x (s : State) (l : List Frame) : (s.push l).x = s.x := rfl
@[simp] theorem State.push_ts (s : State) (l : List Frame) : (s.push l).ts = s.ts := rfl
@[simp] theorem State.push_now (s : State) (l : List Frame) : (s.push l).now = s.now := rfl
@[simp] theorem State.push_pc (s : State) (l : List Frame) : (s.push l).pc = s.pc := rfl
@[simp] theorem State.push_lastStore (s : State) (l : List Frame) : (s.push l).lastStore = s.lastStore := rfl
@[simp] theorem State.push_lastTx (s : State) (l : List Frame) : (s.push l).lastTx = s.lastTx := rfl
@[simp] theorem State.push_canst (s : State) (l : List Frame) : (s.push l).canst = s.canst := rfl
@[simp] theorem State.push_muxsel (s : State) (l : List Frame) : (s.push l).muxsel = s.muxsel := rfl
@[simp] theorem State.push_adcCsn (s : State) (l : List Frame) : (s.push l).adcCsn = s.adcCsn := rfl
@[simp] theorem State.push_canCsn (s : State) (l : List Frame) : (s.push l).canCsn = s.canCsn := rfl
@[simp] theorem State.push_heldA (s : State) (l : List Frame) : (s.push l).heldA = s.heldA := rfl
@[simp] theorem State.push_heldB (s : State) (l : List Frame) : (s.push l).heldB = s.heldB := rfl
@[simp] theorem State.push_cfgvA (s : State) (l : List Frame) : (s.push l).cfgvA = s.cfgvA := rfl
@[simp] theorem State.push_cfgvB (s : State) (l : List Frame) : (s.push l).cfgvB = s.cfgvB := rfl
@[simp] theorem State.push_pay (s : State) (l : List Frame) : (s.push l).pay = s.pay := rfl
@[simp] theorem State.push_payLive (s : State) (l : List Frame) : (s.push l).payLive = s.payLive := rfl
@[simp] theorem State.push_fault (s : State) (l : List Frame) : (s.push l).fault = s.fault := rfl
@[simp] theorem State.push_refused (s : State) (l : List Frame) : (s.push l).refused = s.refused := rfl
@[simp] theorem State.push_trace (s : State) (l : List Frame) : (s.push l).trace = s.trace := rfl
@[simp] theorem State.push_agenda (s : State) (l : List Frame) : (s.push l).agenda = l ++ s.agenda := rfl
@[simp] theorem State.push_rx (s : State) (l : List Frame) : (s.push l).rx = s.rx := rfl
@[simp] theorem State.push_ret (s : State) (l : List Frame) : (s.push l).ret = s.ret := rfl
@[simp] theorem State.push_lastClk (s : State) (l : List Frame) : (s.push l).lastClk = s.lastClk := rfl
@[simp] theorem State.push_waited (s : State) (l : List Frame) : (s.push l).waited = s.waited := rfl
@[simp] theorem State.push_canRegs (s : State) (l : List Frame) : (s.push l).canRegs = s.canRegs := rfl
@[simp] theorem State.push_txb0 (s : State) (l : List Frame) : (s.push l).txb0 = s.txb0 := rfl
@[simp] theorem State.push_env (s : State) (l : List Frame) : (s.push l).env = s.env := rfl
@[simp] theorem State.push_params (s : State) (l : List Frame) : (s.push l).params = s.params := rfl

/-! ### setPc -/

@[simp] theorem State.setPc_x (s : State) (p : Phase) (k : Nat) : (s.setPc p k).x = s.x := rfl
@[simp] theorem State.setPc_ts (s : State) (p : Phase) (k : Nat) : (s.setPc p k).ts = s.ts := rfl
@[simp] theorem State.setPc_now (s : State) (p : Phase) (k : Nat) : (s.setPc p k).now = s.now := rfl
@[simp] theorem State.setPc_pc (s : State) (p : Phase) (k : Nat) : (s.setPc p k).pc = pcWord p k := rfl
@[simp] theorem State.setPc_lastStore (s : State) (p : Phase) (k : Nat) : (s.setPc p k).lastStore = s.lastStore := rfl
@[simp] theorem State.setPc_lastTx (s : State) (p : Phase) (k : Nat) : (s.setPc p k).lastTx = s.lastTx := rfl
@[simp] theorem State.setPc_canst (s : State) (p : Phase) (k : Nat) : (s.setPc p k).canst = s.canst := rfl
@[simp] theorem State.setPc_muxsel (s : State) (p : Phase) (k : Nat) : (s.setPc p k).muxsel = s.muxsel := rfl
@[simp] theorem State.setPc_adcCsn (s : State) (p : Phase) (k : Nat) : (s.setPc p k).adcCsn = s.adcCsn := rfl
@[simp] theorem State.setPc_canCsn (s : State) (p : Phase) (k : Nat) : (s.setPc p k).canCsn = s.canCsn := rfl
@[simp] theorem State.setPc_heldA (s : State) (p : Phase) (k : Nat) : (s.setPc p k).heldA = s.heldA := rfl
@[simp] theorem State.setPc_heldB (s : State) (p : Phase) (k : Nat) : (s.setPc p k).heldB = s.heldB := rfl
@[simp] theorem State.setPc_cfgvA (s : State) (p : Phase) (k : Nat) : (s.setPc p k).cfgvA = s.cfgvA := rfl
@[simp] theorem State.setPc_cfgvB (s : State) (p : Phase) (k : Nat) : (s.setPc p k).cfgvB = s.cfgvB := rfl
@[simp] theorem State.setPc_pay (s : State) (p : Phase) (k : Nat) : (s.setPc p k).pay = s.pay := rfl
@[simp] theorem State.setPc_payLive (s : State) (p : Phase) (k : Nat) : (s.setPc p k).payLive = s.payLive := rfl
@[simp] theorem State.setPc_fault (s : State) (p : Phase) (k : Nat) : (s.setPc p k).fault = s.fault := rfl
@[simp] theorem State.setPc_refused (s : State) (p : Phase) (k : Nat) : (s.setPc p k).refused = s.refused := rfl
@[simp] theorem State.setPc_trace (s : State) (p : Phase) (k : Nat) : (s.setPc p k).trace = s.trace := rfl
@[simp] theorem State.setPc_agenda (s : State) (p : Phase) (k : Nat) : (s.setPc p k).agenda = s.agenda := rfl
@[simp] theorem State.setPc_rx (s : State) (p : Phase) (k : Nat) : (s.setPc p k).rx = s.rx := rfl
@[simp] theorem State.setPc_ret (s : State) (p : Phase) (k : Nat) : (s.setPc p k).ret = s.ret := rfl
@[simp] theorem State.setPc_lastClk (s : State) (p : Phase) (k : Nat) : (s.setPc p k).lastClk = s.lastClk := rfl
@[simp] theorem State.setPc_waited (s : State) (p : Phase) (k : Nat) : (s.setPc p k).waited = s.waited := rfl
@[simp] theorem State.setPc_canRegs (s : State) (p : Phase) (k : Nat) : (s.setPc p k).canRegs = s.canRegs := rfl
@[simp] theorem State.setPc_txb0 (s : State) (p : Phase) (k : Nat) : (s.setPc p k).txb0 = s.txb0 := rfl
@[simp] theorem State.setPc_env (s : State) (p : Phase) (k : Nat) : (s.setPc p k).env = s.env := rfl
@[simp] theorem State.setPc_params (s : State) (p : Phase) (k : Nat) : (s.setPc p k).params = s.params := rfl

/-! ### usedStart -/

@[simp] theorem State.usedStart_x (s : State) : (s.usedStart).x = s.x := rfl
@[simp] theorem State.usedStart_ts (s : State) : (s.usedStart).ts = s.ts := rfl
@[simp] theorem State.usedStart_now (s : State) : (s.usedStart).now = s.now := rfl
@[simp] theorem State.usedStart_pc (s : State) : (s.usedStart).pc = s.pc := rfl
@[simp] theorem State.usedStart_lastStore (s : State) : (s.usedStart).lastStore = s.lastStore := rfl
@[simp] theorem State.usedStart_lastTx (s : State) : (s.usedStart).lastTx = s.lastTx := rfl
@[simp] theorem State.usedStart_canst (s : State) : (s.usedStart).canst = s.canst := rfl
@[simp] theorem State.usedStart_muxsel (s : State) : (s.usedStart).muxsel = s.muxsel := rfl
@[simp] theorem State.usedStart_adcCsn (s : State) : (s.usedStart).adcCsn = s.adcCsn := rfl
@[simp] theorem State.usedStart_canCsn (s : State) : (s.usedStart).canCsn = s.canCsn := rfl
@[simp] theorem State.usedStart_heldA (s : State) : (s.usedStart).heldA = s.heldA := rfl
@[simp] theorem State.usedStart_heldB (s : State) : (s.usedStart).heldB = s.heldB := rfl
@[simp] theorem State.usedStart_cfgvA (s : State) : (s.usedStart).cfgvA = s.cfgvA := rfl
@[simp] theorem State.usedStart_cfgvB (s : State) : (s.usedStart).cfgvB = s.cfgvB := rfl
@[simp] theorem State.usedStart_pay (s : State) : (s.usedStart).pay = s.pay := rfl
@[simp] theorem State.usedStart_payLive (s : State) : (s.usedStart).payLive = s.payLive := rfl
@[simp] theorem State.usedStart_fault (s : State) : (s.usedStart).fault = s.fault := rfl
@[simp] theorem State.usedStart_refused (s : State) : (s.usedStart).refused = s.refused := rfl
@[simp] theorem State.usedStart_trace (s : State) : (s.usedStart).trace = s.trace := rfl
@[simp] theorem State.usedStart_agenda (s : State) : (s.usedStart).agenda = s.agenda := rfl
@[simp] theorem State.usedStart_rx (s : State) : (s.usedStart).rx = s.rx := rfl
@[simp] theorem State.usedStart_ret (s : State) : (s.usedStart).ret = s.ret := rfl
@[simp] theorem State.usedStart_lastClk (s : State) : (s.usedStart).lastClk = s.lastClk := rfl
@[simp] theorem State.usedStart_waited (s : State) : (s.usedStart).waited = s.waited := rfl
@[simp] theorem State.usedStart_canRegs (s : State) : (s.usedStart).canRegs = s.canRegs := rfl
@[simp] theorem State.usedStart_txb0 (s : State) : (s.usedStart).txb0 = s.txb0 := rfl
@[simp] theorem State.usedStart_params (s : State) : (s.usedStart).params = s.params := rfl

/-! ### usedFault -/

@[simp] theorem State.usedFault_x (s : State) : (s.usedFault).x = s.x := rfl
@[simp] theorem State.usedFault_ts (s : State) : (s.usedFault).ts = s.ts := rfl
@[simp] theorem State.usedFault_now (s : State) : (s.usedFault).now = s.now := rfl
@[simp] theorem State.usedFault_pc (s : State) : (s.usedFault).pc = s.pc := rfl
@[simp] theorem State.usedFault_lastStore (s : State) : (s.usedFault).lastStore = s.lastStore := rfl
@[simp] theorem State.usedFault_lastTx (s : State) : (s.usedFault).lastTx = s.lastTx := rfl
@[simp] theorem State.usedFault_canst (s : State) : (s.usedFault).canst = s.canst := rfl
@[simp] theorem State.usedFault_muxsel (s : State) : (s.usedFault).muxsel = s.muxsel := rfl
@[simp] theorem State.usedFault_adcCsn (s : State) : (s.usedFault).adcCsn = s.adcCsn := rfl
@[simp] theorem State.usedFault_canCsn (s : State) : (s.usedFault).canCsn = s.canCsn := rfl
@[simp] theorem State.usedFault_heldA (s : State) : (s.usedFault).heldA = s.heldA := rfl
@[simp] theorem State.usedFault_heldB (s : State) : (s.usedFault).heldB = s.heldB := rfl
@[simp] theorem State.usedFault_cfgvA (s : State) : (s.usedFault).cfgvA = s.cfgvA := rfl
@[simp] theorem State.usedFault_cfgvB (s : State) : (s.usedFault).cfgvB = s.cfgvB := rfl
@[simp] theorem State.usedFault_pay (s : State) : (s.usedFault).pay = s.pay := rfl
@[simp] theorem State.usedFault_payLive (s : State) : (s.usedFault).payLive = s.payLive := rfl
@[simp] theorem State.usedFault_fault (s : State) : (s.usedFault).fault = s.fault := rfl
@[simp] theorem State.usedFault_refused (s : State) : (s.usedFault).refused = s.refused := rfl
@[simp] theorem State.usedFault_trace (s : State) : (s.usedFault).trace = s.trace := rfl
@[simp] theorem State.usedFault_agenda (s : State) : (s.usedFault).agenda = s.agenda := rfl
@[simp] theorem State.usedFault_rx (s : State) : (s.usedFault).rx = s.rx := rfl
@[simp] theorem State.usedFault_ret (s : State) : (s.usedFault).ret = s.ret := rfl
@[simp] theorem State.usedFault_lastClk (s : State) : (s.usedFault).lastClk = s.lastClk := rfl
@[simp] theorem State.usedFault_waited (s : State) : (s.usedFault).waited = s.waited := rfl
@[simp] theorem State.usedFault_canRegs (s : State) : (s.usedFault).canRegs = s.canRegs := rfl
@[simp] theorem State.usedFault_txb0 (s : State) : (s.usedFault).txb0 = s.txb0 := rfl
@[simp] theorem State.usedFault_params (s : State) : (s.usedFault).params = s.params := rfl

/-! ### usedRx -/

@[simp] theorem State.usedRx_x (s : State) : (s.usedRx).x = s.x := rfl
@[simp] theorem State.usedRx_ts (s : State) : (s.usedRx).ts = s.ts := rfl
@[simp] theorem State.usedRx_now (s : State) : (s.usedRx).now = s.now := rfl
@[simp] theorem State.usedRx_pc (s : State) : (s.usedRx).pc = s.pc := rfl
@[simp] theorem State.usedRx_lastStore (s : State) : (s.usedRx).lastStore = s.lastStore := rfl
@[simp] theorem State.usedRx_lastTx (s : State) : (s.usedRx).lastTx = s.lastTx := rfl
@[simp] theorem State.usedRx_canst (s : State) : (s.usedRx).canst = s.canst := rfl
@[simp] theorem State.usedRx_muxsel (s : State) : (s.usedRx).muxsel = s.muxsel := rfl
@[simp] theorem State.usedRx_adcCsn (s : State) : (s.usedRx).adcCsn = s.adcCsn := rfl
@[simp] theorem State.usedRx_canCsn (s : State) : (s.usedRx).canCsn = s.canCsn := rfl
@[simp] theorem State.usedRx_heldA (s : State) : (s.usedRx).heldA = s.heldA := rfl
@[simp] theorem State.usedRx_heldB (s : State) : (s.usedRx).heldB = s.heldB := rfl
@[simp] theorem State.usedRx_cfgvA (s : State) : (s.usedRx).cfgvA = s.cfgvA := rfl
@[simp] theorem State.usedRx_cfgvB (s : State) : (s.usedRx).cfgvB = s.cfgvB := rfl
@[simp] theorem State.usedRx_pay (s : State) : (s.usedRx).pay = s.pay := rfl
@[simp] theorem State.usedRx_payLive (s : State) : (s.usedRx).payLive = s.payLive := rfl
@[simp] theorem State.usedRx_fault (s : State) : (s.usedRx).fault = s.fault := rfl
@[simp] theorem State.usedRx_refused (s : State) : (s.usedRx).refused = s.refused := rfl
@[simp] theorem State.usedRx_trace (s : State) : (s.usedRx).trace = s.trace := rfl
@[simp] theorem State.usedRx_agenda (s : State) : (s.usedRx).agenda = s.agenda := rfl
@[simp] theorem State.usedRx_rx (s : State) : (s.usedRx).rx = s.rx := rfl
@[simp] theorem State.usedRx_ret (s : State) : (s.usedRx).ret = s.ret := rfl
@[simp] theorem State.usedRx_lastClk (s : State) : (s.usedRx).lastClk = s.lastClk := rfl
@[simp] theorem State.usedRx_waited (s : State) : (s.usedRx).waited = s.waited := rfl
@[simp] theorem State.usedRx_canRegs (s : State) : (s.usedRx).canRegs = s.canRegs := rfl
@[simp] theorem State.usedRx_txb0 (s : State) : (s.usedRx).txb0 = s.txb0 := rfl
@[simp] theorem State.usedRx_params (s : State) : (s.usedRx).params = s.params := rfl

/-! ### usedStop -/

@[simp] theorem State.usedStop_x (s : State) : (s.usedStop).x = s.x := rfl
@[simp] theorem State.usedStop_ts (s : State) : (s.usedStop).ts = s.ts := rfl
@[simp] theorem State.usedStop_now (s : State) : (s.usedStop).now = s.now := rfl
@[simp] theorem State.usedStop_pc (s : State) : (s.usedStop).pc = s.pc := rfl
@[simp] theorem State.usedStop_lastStore (s : State) : (s.usedStop).lastStore = s.lastStore := rfl
@[simp] theorem State.usedStop_lastTx (s : State) : (s.usedStop).lastTx = s.lastTx := rfl
@[simp] theorem State.usedStop_canst (s : State) : (s.usedStop).canst = s.canst := rfl
@[simp] theorem State.usedStop_muxsel (s : State) : (s.usedStop).muxsel = s.muxsel := rfl
@[simp] theorem State.usedStop_adcCsn (s : State) : (s.usedStop).adcCsn = s.adcCsn := rfl
@[simp] theorem State.usedStop_canCsn (s : State) : (s.usedStop).canCsn = s.canCsn := rfl
@[simp] theorem State.usedStop_heldA (s : State) : (s.usedStop).heldA = s.heldA := rfl
@[simp] theorem State.usedStop_heldB (s : State) : (s.usedStop).heldB = s.heldB := rfl
@[simp] theorem State.usedStop_cfgvA (s : State) : (s.usedStop).cfgvA = s.cfgvA := rfl
@[simp] theorem State.usedStop_cfgvB (s : State) : (s.usedStop).cfgvB = s.cfgvB := rfl
@[simp] theorem State.usedStop_pay (s : State) : (s.usedStop).pay = s.pay := rfl
@[simp] theorem State.usedStop_payLive (s : State) : (s.usedStop).payLive = s.payLive := rfl
@[simp] theorem State.usedStop_fault (s : State) : (s.usedStop).fault = s.fault := rfl
@[simp] theorem State.usedStop_refused (s : State) : (s.usedStop).refused = s.refused := rfl
@[simp] theorem State.usedStop_trace (s : State) : (s.usedStop).trace = s.trace := rfl
@[simp] theorem State.usedStop_agenda (s : State) : (s.usedStop).agenda = s.agenda := rfl
@[simp] theorem State.usedStop_rx (s : State) : (s.usedStop).rx = s.rx := rfl
@[simp] theorem State.usedStop_ret (s : State) : (s.usedStop).ret = s.ret := rfl
@[simp] theorem State.usedStop_lastClk (s : State) : (s.usedStop).lastClk = s.lastClk := rfl
@[simp] theorem State.usedStop_waited (s : State) : (s.usedStop).waited = s.waited := rfl
@[simp] theorem State.usedStop_canRegs (s : State) : (s.usedStop).canRegs = s.canRegs := rfl
@[simp] theorem State.usedStop_txb0 (s : State) : (s.usedStop).txb0 = s.txb0 := rfl
@[simp] theorem State.usedStop_params (s : State) : (s.usedStop).params = s.params := rfl

/-! ### usedStore -/

@[simp] theorem State.usedStore_x (s : State) : (s.usedStore).x = s.x := rfl
@[simp] theorem State.usedStore_ts (s : State) : (s.usedStore).ts = s.ts := rfl
@[simp] theorem State.usedStore_now (s : State) : (s.usedStore).now = s.now := rfl
@[simp] theorem State.usedStore_pc (s : State) : (s.usedStore).pc = s.pc := rfl
@[simp] theorem State.usedStore_lastStore (s : State) : (s.usedStore).lastStore = s.lastStore := rfl
@[simp] theorem State.usedStore_lastTx (s : State) : (s.usedStore).lastTx = s.lastTx := rfl
@[simp] theorem State.usedStore_canst (s : State) : (s.usedStore).canst = s.canst := rfl
@[simp] theorem State.usedStore_muxsel (s : State) : (s.usedStore).muxsel = s.muxsel := rfl
@[simp] theorem State.usedStore_adcCsn (s : State) : (s.usedStore).adcCsn = s.adcCsn := rfl
@[simp] theorem State.usedStore_canCsn (s : State) : (s.usedStore).canCsn = s.canCsn := rfl
@[simp] theorem State.usedStore_heldA (s : State) : (s.usedStore).heldA = s.heldA := rfl
@[simp] theorem State.usedStore_heldB (s : State) : (s.usedStore).heldB = s.heldB := rfl
@[simp] theorem State.usedStore_cfgvA (s : State) : (s.usedStore).cfgvA = s.cfgvA := rfl
@[simp] theorem State.usedStore_cfgvB (s : State) : (s.usedStore).cfgvB = s.cfgvB := rfl
@[simp] theorem State.usedStore_pay (s : State) : (s.usedStore).pay = s.pay := rfl
@[simp] theorem State.usedStore_payLive (s : State) : (s.usedStore).payLive = s.payLive := rfl
@[simp] theorem State.usedStore_fault (s : State) : (s.usedStore).fault = s.fault := rfl
@[simp] theorem State.usedStore_refused (s : State) : (s.usedStore).refused = s.refused := rfl
@[simp] theorem State.usedStore_trace (s : State) : (s.usedStore).trace = s.trace := rfl
@[simp] theorem State.usedStore_agenda (s : State) : (s.usedStore).agenda = s.agenda := rfl
@[simp] theorem State.usedStore_rx (s : State) : (s.usedStore).rx = s.rx := rfl
@[simp] theorem State.usedStore_ret (s : State) : (s.usedStore).ret = s.ret := rfl
@[simp] theorem State.usedStore_lastClk (s : State) : (s.usedStore).lastClk = s.lastClk := rfl
@[simp] theorem State.usedStore_waited (s : State) : (s.usedStore).waited = s.waited := rfl
@[simp] theorem State.usedStore_canRegs (s : State) : (s.usedStore).canRegs = s.canRegs := rfl
@[simp] theorem State.usedStore_txb0 (s : State) : (s.usedStore).txb0 = s.txb0 := rfl
@[simp] theorem State.usedStore_params (s : State) : (s.usedStore).params = s.params := rfl

/-! ### usedClock -/

@[simp] theorem State.usedClock_x (s : State) : (s.usedClock).x = s.x := rfl
@[simp] theorem State.usedClock_ts (s : State) : (s.usedClock).ts = s.ts := rfl
@[simp] theorem State.usedClock_now (s : State) : (s.usedClock).now = s.now := rfl
@[simp] theorem State.usedClock_pc (s : State) : (s.usedClock).pc = s.pc := rfl
@[simp] theorem State.usedClock_lastStore (s : State) : (s.usedClock).lastStore = s.lastStore := rfl
@[simp] theorem State.usedClock_lastTx (s : State) : (s.usedClock).lastTx = s.lastTx := rfl
@[simp] theorem State.usedClock_canst (s : State) : (s.usedClock).canst = s.canst := rfl
@[simp] theorem State.usedClock_muxsel (s : State) : (s.usedClock).muxsel = s.muxsel := rfl
@[simp] theorem State.usedClock_adcCsn (s : State) : (s.usedClock).adcCsn = s.adcCsn := rfl
@[simp] theorem State.usedClock_canCsn (s : State) : (s.usedClock).canCsn = s.canCsn := rfl
@[simp] theorem State.usedClock_heldA (s : State) : (s.usedClock).heldA = s.heldA := rfl
@[simp] theorem State.usedClock_heldB (s : State) : (s.usedClock).heldB = s.heldB := rfl
@[simp] theorem State.usedClock_cfgvA (s : State) : (s.usedClock).cfgvA = s.cfgvA := rfl
@[simp] theorem State.usedClock_cfgvB (s : State) : (s.usedClock).cfgvB = s.cfgvB := rfl
@[simp] theorem State.usedClock_pay (s : State) : (s.usedClock).pay = s.pay := rfl
@[simp] theorem State.usedClock_payLive (s : State) : (s.usedClock).payLive = s.payLive := rfl
@[simp] theorem State.usedClock_fault (s : State) : (s.usedClock).fault = s.fault := rfl
@[simp] theorem State.usedClock_refused (s : State) : (s.usedClock).refused = s.refused := rfl
@[simp] theorem State.usedClock_trace (s : State) : (s.usedClock).trace = s.trace := rfl
@[simp] theorem State.usedClock_agenda (s : State) : (s.usedClock).agenda = s.agenda := rfl
@[simp] theorem State.usedClock_rx (s : State) : (s.usedClock).rx = s.rx := rfl
@[simp] theorem State.usedClock_ret (s : State) : (s.usedClock).ret = s.ret := rfl
@[simp] theorem State.usedClock_lastClk (s : State) : (s.usedClock).lastClk = some s.clockIn := rfl
@[simp] theorem State.usedClock_waited (s : State) : (s.usedClock).waited = 0 := rfl
@[simp] theorem State.usedClock_canRegs (s : State) : (s.usedClock).canRegs = s.canRegs := rfl
@[simp] theorem State.usedClock_txb0 (s : State) : (s.usedClock).txb0 = s.txb0 := rfl
@[simp] theorem State.usedClock_params (s : State) : (s.usedClock).params = s.params := rfl

/-! ### usedGrant -/

@[simp] theorem State.usedGrant_x (s : State) (bus : Bus) : (s.usedGrant bus).x = s.x := by cases bus <;> rfl
@[simp] theorem State.usedGrant_ts (s : State) (bus : Bus) : (s.usedGrant bus).ts = s.ts := by cases bus <;> rfl
@[simp] theorem State.usedGrant_now (s : State) (bus : Bus) : (s.usedGrant bus).now = s.now := by cases bus <;> rfl
@[simp] theorem State.usedGrant_pc (s : State) (bus : Bus) : (s.usedGrant bus).pc = s.pc := by cases bus <;> rfl
@[simp] theorem State.usedGrant_lastStore (s : State) (bus : Bus) : (s.usedGrant bus).lastStore = s.lastStore := by cases bus <;> rfl
@[simp] theorem State.usedGrant_lastTx (s : State) (bus : Bus) : (s.usedGrant bus).lastTx = s.lastTx := by cases bus <;> rfl
@[simp] theorem State.usedGrant_canst (s : State) (bus : Bus) : (s.usedGrant bus).canst = s.canst := by cases bus <;> rfl
@[simp] theorem State.usedGrant_muxsel (s : State) (bus : Bus) : (s.usedGrant bus).muxsel = s.muxsel := by cases bus <;> rfl
@[simp] theorem State.usedGrant_adcCsn (s : State) (bus : Bus) : (s.usedGrant bus).adcCsn = s.adcCsn := by cases bus <;> rfl
@[simp] theorem State.usedGrant_canCsn (s : State) (bus : Bus) : (s.usedGrant bus).canCsn = s.canCsn := by cases bus <;> rfl
@[simp] theorem State.usedGrant_heldA (s : State) (bus : Bus) : (s.usedGrant bus).heldA = s.heldA := by cases bus <;> rfl
@[simp] theorem State.usedGrant_heldB (s : State) (bus : Bus) : (s.usedGrant bus).heldB = s.heldB := by cases bus <;> rfl
@[simp] theorem State.usedGrant_cfgvA (s : State) (bus : Bus) : (s.usedGrant bus).cfgvA = s.cfgvA := by cases bus <;> rfl
@[simp] theorem State.usedGrant_cfgvB (s : State) (bus : Bus) : (s.usedGrant bus).cfgvB = s.cfgvB := by cases bus <;> rfl
@[simp] theorem State.usedGrant_pay (s : State) (bus : Bus) : (s.usedGrant bus).pay = s.pay := by cases bus <;> rfl
@[simp] theorem State.usedGrant_payLive (s : State) (bus : Bus) : (s.usedGrant bus).payLive = s.payLive := by cases bus <;> rfl
@[simp] theorem State.usedGrant_fault (s : State) (bus : Bus) : (s.usedGrant bus).fault = s.fault := by cases bus <;> rfl
@[simp] theorem State.usedGrant_refused (s : State) (bus : Bus) : (s.usedGrant bus).refused = s.refused := by cases bus <;> rfl
@[simp] theorem State.usedGrant_trace (s : State) (bus : Bus) : (s.usedGrant bus).trace = s.trace := by cases bus <;> rfl
@[simp] theorem State.usedGrant_agenda (s : State) (bus : Bus) : (s.usedGrant bus).agenda = s.agenda := by cases bus <;> rfl
@[simp] theorem State.usedGrant_rx (s : State) (bus : Bus) : (s.usedGrant bus).rx = s.rx := by cases bus <;> rfl
@[simp] theorem State.usedGrant_ret (s : State) (bus : Bus) : (s.usedGrant bus).ret = s.ret := by cases bus <;> rfl
@[simp] theorem State.usedGrant_lastClk (s : State) (bus : Bus) : (s.usedGrant bus).lastClk = s.lastClk := by cases bus <;> rfl
@[simp] theorem State.usedGrant_waited (s : State) (bus : Bus) : (s.usedGrant bus).waited = s.waited := by cases bus <;> rfl
@[simp] theorem State.usedGrant_canRegs (s : State) (bus : Bus) : (s.usedGrant bus).canRegs = s.canRegs := by cases bus <;> rfl
@[simp] theorem State.usedGrant_txb0 (s : State) (bus : Bus) : (s.usedGrant bus).txb0 = s.txb0 := by cases bus <;> rfl
@[simp] theorem State.usedGrant_params (s : State) (bus : Bus) : (s.usedGrant bus).params = s.params := by cases bus <;> rfl

/-! ### setHeld -/

@[simp] theorem State.setHeld_x (s : State) (v : Bool) (bus : Bus) : (s.setHeld v bus).x = s.x := by cases bus <;> rfl
@[simp] theorem State.setHeld_ts (s : State) (v : Bool) (bus : Bus) : (s.setHeld v bus).ts = s.ts := by cases bus <;> rfl
@[simp] theorem State.setHeld_now (s : State) (v : Bool) (bus : Bus) : (s.setHeld v bus).now = s.now := by cases bus <;> rfl
@[simp] theorem State.setHeld_pc (s : State) (v : Bool) (bus : Bus) : (s.setHeld v bus).pc = s.pc := by cases bus <;> rfl
@[simp] theorem State.setHeld_lastStore (s : State) (v : Bool) (bus : Bus) : (s.setHeld v bus).lastStore = s.lastStore := by cases bus <;> rfl
@[simp] theorem State.setHeld_lastTx (s : State) (v : Bool) (bus : Bus) : (s.setHeld v bus).lastTx = s.lastTx := by cases bus <;> rfl
@[simp] theorem State.setHeld_canst (s : State) (v : Bool) (bus : Bus) : (s.setHeld v bus).canst = s.canst := by cases bus <;> rfl
@[simp] theorem State.setHeld_muxsel (s : State) (v : Bool) (bus : Bus) : (s.setHeld v bus).muxsel = s.muxsel := by cases bus <;> rfl
@[simp] theorem State.setHeld_adcCsn (s : State) (v : Bool) (bus : Bus) : (s.setHeld v bus).adcCsn = s.adcCsn := by cases bus <;> rfl
@[simp] theorem State.setHeld_canCsn (s : State) (v : Bool) (bus : Bus) : (s.setHeld v bus).canCsn = s.canCsn := by cases bus <;> rfl
@[simp] theorem State.setHeld_cfgvA (s : State) (v : Bool) (bus : Bus) : (s.setHeld v bus).cfgvA = s.cfgvA := by cases bus <;> rfl
@[simp] theorem State.setHeld_cfgvB (s : State) (v : Bool) (bus : Bus) : (s.setHeld v bus).cfgvB = s.cfgvB := by cases bus <;> rfl
@[simp] theorem State.setHeld_pay (s : State) (v : Bool) (bus : Bus) : (s.setHeld v bus).pay = s.pay := by cases bus <;> rfl
@[simp] theorem State.setHeld_payLive (s : State) (v : Bool) (bus : Bus) : (s.setHeld v bus).payLive = s.payLive := by cases bus <;> rfl
@[simp] theorem State.setHeld_fault (s : State) (v : Bool) (bus : Bus) : (s.setHeld v bus).fault = s.fault := by cases bus <;> rfl
@[simp] theorem State.setHeld_refused (s : State) (v : Bool) (bus : Bus) : (s.setHeld v bus).refused = s.refused := by cases bus <;> rfl
@[simp] theorem State.setHeld_trace (s : State) (v : Bool) (bus : Bus) : (s.setHeld v bus).trace = s.trace := by cases bus <;> rfl
@[simp] theorem State.setHeld_agenda (s : State) (v : Bool) (bus : Bus) : (s.setHeld v bus).agenda = s.agenda := by cases bus <;> rfl
@[simp] theorem State.setHeld_rx (s : State) (v : Bool) (bus : Bus) : (s.setHeld v bus).rx = s.rx := by cases bus <;> rfl
@[simp] theorem State.setHeld_ret (s : State) (v : Bool) (bus : Bus) : (s.setHeld v bus).ret = s.ret := by cases bus <;> rfl
@[simp] theorem State.setHeld_lastClk (s : State) (v : Bool) (bus : Bus) : (s.setHeld v bus).lastClk = s.lastClk := by cases bus <;> rfl
@[simp] theorem State.setHeld_waited (s : State) (v : Bool) (bus : Bus) : (s.setHeld v bus).waited = s.waited := by cases bus <;> rfl
@[simp] theorem State.setHeld_canRegs (s : State) (v : Bool) (bus : Bus) : (s.setHeld v bus).canRegs = s.canRegs := by cases bus <;> rfl
@[simp] theorem State.setHeld_txb0 (s : State) (v : Bool) (bus : Bus) : (s.setHeld v bus).txb0 = s.txb0 := by cases bus <;> rfl
@[simp] theorem State.setHeld_env (s : State) (v : Bool) (bus : Bus) : (s.setHeld v bus).env = s.env := by cases bus <;> rfl
@[simp] theorem State.setHeld_params (s : State) (v : Bool) (bus : Bus) : (s.setHeld v bus).params = s.params := by cases bus <;> rfl

/-! ### setCfgv -/

@[simp] theorem State.setCfgv_x (s : State) (v : Bool) (bus : Bus) : (s.setCfgv v bus).x = s.x := by cases bus <;> rfl
@[simp] theorem State.setCfgv_ts (s : State) (v : Bool) (bus : Bus) : (s.setCfgv v bus).ts = s.ts := by cases bus <;> rfl
@[simp] theorem State.setCfgv_now (s : State) (v : Bool) (bus : Bus) : (s.setCfgv v bus).now = s.now := by cases bus <;> rfl
@[simp] theorem State.setCfgv_pc (s : State) (v : Bool) (bus : Bus) : (s.setCfgv v bus).pc = s.pc := by cases bus <;> rfl
@[simp] theorem State.setCfgv_lastStore (s : State) (v : Bool) (bus : Bus) : (s.setCfgv v bus).lastStore = s.lastStore := by cases bus <;> rfl
@[simp] theorem State.setCfgv_lastTx (s : State) (v : Bool) (bus : Bus) : (s.setCfgv v bus).lastTx = s.lastTx := by cases bus <;> rfl
@[simp] theorem State.setCfgv_canst (s : State) (v : Bool) (bus : Bus) : (s.setCfgv v bus).canst = s.canst := by cases bus <;> rfl
@[simp] theorem State.setCfgv_muxsel (s : State) (v : Bool) (bus : Bus) : (s.setCfgv v bus).muxsel = s.muxsel := by cases bus <;> rfl
@[simp] theorem State.setCfgv_adcCsn (s : State) (v : Bool) (bus : Bus) : (s.setCfgv v bus).adcCsn = s.adcCsn := by cases bus <;> rfl
@[simp] theorem State.setCfgv_canCsn (s : State) (v : Bool) (bus : Bus) : (s.setCfgv v bus).canCsn = s.canCsn := by cases bus <;> rfl
@[simp] theorem State.setCfgv_heldA (s : State) (v : Bool) (bus : Bus) : (s.setCfgv v bus).heldA = s.heldA := by cases bus <;> rfl
@[simp] theorem State.setCfgv_heldB (s : State) (v : Bool) (bus : Bus) : (s.setCfgv v bus).heldB = s.heldB := by cases bus <;> rfl
@[simp] theorem State.setCfgv_pay (s : State) (v : Bool) (bus : Bus) : (s.setCfgv v bus).pay = s.pay := by cases bus <;> rfl
@[simp] theorem State.setCfgv_payLive (s : State) (v : Bool) (bus : Bus) : (s.setCfgv v bus).payLive = s.payLive := by cases bus <;> rfl
@[simp] theorem State.setCfgv_fault (s : State) (v : Bool) (bus : Bus) : (s.setCfgv v bus).fault = s.fault := by cases bus <;> rfl
@[simp] theorem State.setCfgv_refused (s : State) (v : Bool) (bus : Bus) : (s.setCfgv v bus).refused = s.refused := by cases bus <;> rfl
@[simp] theorem State.setCfgv_trace (s : State) (v : Bool) (bus : Bus) : (s.setCfgv v bus).trace = s.trace := by cases bus <;> rfl
@[simp] theorem State.setCfgv_agenda (s : State) (v : Bool) (bus : Bus) : (s.setCfgv v bus).agenda = s.agenda := by cases bus <;> rfl
@[simp] theorem State.setCfgv_rx (s : State) (v : Bool) (bus : Bus) : (s.setCfgv v bus).rx = s.rx := by cases bus <;> rfl
@[simp] theorem State.setCfgv_ret (s : State) (v : Bool) (bus : Bus) : (s.setCfgv v bus).ret = s.ret := by cases bus <;> rfl
@[simp] theorem State.setCfgv_lastClk (s : State) (v : Bool) (bus : Bus) : (s.setCfgv v bus).lastClk = s.lastClk := by cases bus <;> rfl
@[simp] theorem State.setCfgv_waited (s : State) (v : Bool) (bus : Bus) : (s.setCfgv v bus).waited = s.waited := by cases bus <;> rfl
@[simp] theorem State.setCfgv_canRegs (s : State) (v : Bool) (bus : Bus) : (s.setCfgv v bus).canRegs = s.canRegs := by cases bus <;> rfl
@[simp] theorem State.setCfgv_txb0 (s : State) (v : Bool) (bus : Bus) : (s.setCfgv v bus).txb0 = s.txb0 := by cases bus <;> rfl
@[simp] theorem State.setCfgv_env (s : State) (v : Bool) (bus : Bus) : (s.setCfgv v bus).env = s.env := by cases bus <;> rfl
@[simp] theorem State.setCfgv_params (s : State) (v : Bool) (bus : Bus) : (s.setCfgv v bus).params = s.params := by cases bus <;> rfl

/-! ### setCsn -/

@[simp] theorem State.setCsn_x (s : State) (v : Bool) (d : Device) : (s.setCsn v d).x = s.x := by cases d <;> rfl
@[simp] theorem State.setCsn_ts (s : State) (v : Bool) (d : Device) : (s.setCsn v d).ts = s.ts := by cases d <;> rfl
@[simp] theorem State.setCsn_now (s : State) (v : Bool) (d : Device) : (s.setCsn v d).now = s.now := by cases d <;> rfl
@[simp] theorem State.setCsn_pc (s : State) (v : Bool) (d : Device) : (s.setCsn v d).pc = s.pc := by cases d <;> rfl
@[simp] theorem State.setCsn_lastStore (s : State) (v : Bool) (d : Device) : (s.setCsn v d).lastStore = s.lastStore := by cases d <;> rfl
@[simp] theorem State.setCsn_lastTx (s : State) (v : Bool) (d : Device) : (s.setCsn v d).lastTx = s.lastTx := by cases d <;> rfl
@[simp] theorem State.setCsn_canst (s : State) (v : Bool) (d : Device) : (s.setCsn v d).canst = s.canst := by cases d <;> rfl
@[simp] theorem State.setCsn_muxsel (s : State) (v : Bool) (d : Device) : (s.setCsn v d).muxsel = s.muxsel := by cases d <;> rfl
@[simp] theorem State.setCsn_heldA (s : State) (v : Bool) (d : Device) : (s.setCsn v d).heldA = s.heldA := by cases d <;> rfl
@[simp] theorem State.setCsn_heldB (s : State) (v : Bool) (d : Device) : (s.setCsn v d).heldB = s.heldB := by cases d <;> rfl
@[simp] theorem State.setCsn_cfgvA (s : State) (v : Bool) (d : Device) : (s.setCsn v d).cfgvA = s.cfgvA := by cases d <;> rfl
@[simp] theorem State.setCsn_cfgvB (s : State) (v : Bool) (d : Device) : (s.setCsn v d).cfgvB = s.cfgvB := by cases d <;> rfl
@[simp] theorem State.setCsn_pay (s : State) (v : Bool) (d : Device) : (s.setCsn v d).pay = s.pay := by cases d <;> rfl
@[simp] theorem State.setCsn_payLive (s : State) (v : Bool) (d : Device) : (s.setCsn v d).payLive = s.payLive := by cases d <;> rfl
@[simp] theorem State.setCsn_fault (s : State) (v : Bool) (d : Device) : (s.setCsn v d).fault = s.fault := by cases d <;> rfl
@[simp] theorem State.setCsn_refused (s : State) (v : Bool) (d : Device) : (s.setCsn v d).refused = s.refused := by cases d <;> rfl
@[simp] theorem State.setCsn_trace (s : State) (v : Bool) (d : Device) : (s.setCsn v d).trace = s.trace := by cases d <;> rfl
@[simp] theorem State.setCsn_agenda (s : State) (v : Bool) (d : Device) : (s.setCsn v d).agenda = s.agenda := by cases d <;> rfl
@[simp] theorem State.setCsn_rx (s : State) (v : Bool) (d : Device) : (s.setCsn v d).rx = s.rx := by cases d <;> rfl
@[simp] theorem State.setCsn_ret (s : State) (v : Bool) (d : Device) : (s.setCsn v d).ret = s.ret := by cases d <;> rfl
@[simp] theorem State.setCsn_lastClk (s : State) (v : Bool) (d : Device) : (s.setCsn v d).lastClk = s.lastClk := by cases d <;> rfl
@[simp] theorem State.setCsn_waited (s : State) (v : Bool) (d : Device) : (s.setCsn v d).waited = s.waited := by cases d <;> rfl
@[simp] theorem State.setCsn_canRegs (s : State) (v : Bool) (d : Device) : (s.setCsn v d).canRegs = s.canRegs := by cases d <;> rfl
@[simp] theorem State.setCsn_txb0 (s : State) (v : Bool) (d : Device) : (s.setCsn v d).txb0 = s.txb0 := by cases d <;> rfl
@[simp] theorem State.setCsn_env (s : State) (v : Bool) (d : Device) : (s.setCsn v d).env = s.env := by cases d <;> rfl
@[simp] theorem State.setCsn_params (s : State) (v : Bool) (d : Device) : (s.setCsn v d).params = s.params := by cases d <;> rfl

/-! ### loosePins -/

@[simp] theorem State.loosePins_x (s : State) : (s.loosePins).x = s.x := rfl
@[simp] theorem State.loosePins_ts (s : State) : (s.loosePins).ts = s.ts := rfl
@[simp] theorem State.loosePins_now (s : State) : (s.loosePins).now = s.now := rfl
@[simp] theorem State.loosePins_pc (s : State) : (s.loosePins).pc = s.pc := rfl
@[simp] theorem State.loosePins_lastStore (s : State) : (s.loosePins).lastStore = s.lastStore := rfl
@[simp] theorem State.loosePins_lastTx (s : State) : (s.loosePins).lastTx = s.lastTx := rfl
@[simp] theorem State.loosePins_canst (s : State) : (s.loosePins).canst = s.canst := rfl
@[simp] theorem State.loosePins_cfgvA (s : State) : (s.loosePins).cfgvA = s.cfgvA := rfl
@[simp] theorem State.loosePins_cfgvB (s : State) : (s.loosePins).cfgvB = s.cfgvB := rfl
@[simp] theorem State.loosePins_pay (s : State) : (s.loosePins).pay = s.pay := rfl
@[simp] theorem State.loosePins_payLive (s : State) : (s.loosePins).payLive = s.payLive := rfl
@[simp] theorem State.loosePins_fault (s : State) : (s.loosePins).fault = s.fault := rfl
@[simp] theorem State.loosePins_refused (s : State) : (s.loosePins).refused = s.refused := rfl
@[simp] theorem State.loosePins_trace (s : State) : (s.loosePins).trace = s.trace := rfl
@[simp] theorem State.loosePins_agenda (s : State) : (s.loosePins).agenda = s.agenda := rfl
@[simp] theorem State.loosePins_rx (s : State) : (s.loosePins).rx = s.rx := rfl
@[simp] theorem State.loosePins_ret (s : State) : (s.loosePins).ret = s.ret := rfl
@[simp] theorem State.loosePins_lastClk (s : State) : (s.loosePins).lastClk = s.lastClk := rfl
@[simp] theorem State.loosePins_waited (s : State) : (s.loosePins).waited = s.waited := rfl
@[simp] theorem State.loosePins_canRegs (s : State) : (s.loosePins).canRegs = s.canRegs := rfl
@[simp] theorem State.loosePins_txb0 (s : State) : (s.loosePins).txb0 = s.txb0 := rfl
@[simp] theorem State.loosePins_params (s : State) : (s.loosePins).params = s.params := rfl

/-! ### The locks, configurations and selects by bus and device -/

@[simp] theorem State.held_setHeld (s : State) (v : Bool) (bus : Bus) : (s.setHeld v bus).held bus = v := by
  cases bus <;> rfl
@[simp] theorem State.cfgv_setCfgv (s : State) (v : Bool) (bus : Bus) : (s.setCfgv v bus).cfgv bus = v := by
  cases bus <;> rfl
@[simp] theorem State.csn_setCsn (s : State) (v : Bool) (d : Device) : (s.setCsn v d).csn d = v := by
  cases d <;> rfl
@[simp] theorem State.held_setCfgv (s : State) (v : Bool) (b₁ b₂ : Bus) : (s.setCfgv v b₁).held b₂ = s.held b₂ := by
  cases b₁ <;> cases b₂ <;> rfl
@[simp] theorem State.held_setCsn (s : State) (v : Bool) (d : Device) (bus : Bus) :
    (s.setCsn v d).held bus = s.held bus := by
  cases d <;> cases bus <;> rfl
@[simp] theorem State.cfgv_setCsn (s : State) (v : Bool) (d : Device) (bus : Bus) :
    (s.setCsn v d).cfgv bus = s.cfgv bus := by
  cases d <;> cases bus <;> rfl
@[simp] theorem State.csn_setHeld (s : State) (v : Bool) (bus : Bus) (d : Device) :
    (s.setHeld v bus).csn d = s.csn d := by
  cases d <;> cases bus <;> rfl
@[simp] theorem State.csn_setCfgv (s : State) (v : Bool) (bus : Bus) (d : Device) :
    (s.setCfgv v bus).csn d = s.csn d := by
  cases d <;> cases bus <;> rfl
@[simp] theorem State.cfgv_setHeld (s : State) (v : Bool) (b₁ b₂ : Bus) : (s.setHeld v b₁).cfgv b₂ = s.cfgv b₂ := by
  cases b₁ <;> cases b₂ <;> rfl

end Sys2Proof.Machine
end

