-- ==== Sys2Proof/Laws/Ops.lean ====
section
/-! SUPPORT. What each shared operation can do, said once. -/

namespace Sys2Proof.Machine

/-! ### settle: the fields no silent action touches -/

@[simp] theorem settle_nil (s : State) : settle [] s = { s with agenda := [] } := rfl
@[simp] theorem settle_op (i : Instr) (l : List Frame) (s : State) :
    settle (.op i :: l) s = { s with agenda := .op i :: l } := rfl
@[simp] theorem settle_log (c : Cause) (l : List Frame) (s : State) :
    settle (.log c :: l) s = { s with agenda := .log c :: l } := rfl
@[simp] theorem settle_word (n w : Nat) (l : List Frame) (s : State) :
    settle (.word n w :: l) s = { s with agenda := .word n w :: l } := rfl
@[simp] theorem settle_act (a : Act) (l : List Frame) (s : State) : settle (.act a :: l) s = settle l (doAct s a) := rfl

@[simp] theorem doAct_ts (s : State) (a : Act) : (doAct s a).ts = s.ts := by
  cases a <;> simp only [doAct] <;> (try split) <;> rfl
@[simp] theorem settle_ts (l : List Frame) (s : State) : (settle l s).ts = s.ts := by
  induction l generalizing s with
  | nil => rfl
  | cons h t ih => cases h <;> simp [ih]
@[simp] theorem doAct_now (s : State) (a : Act) : (doAct s a).now = s.now := by
  cases a <;> simp only [doAct] <;> (try split) <;> rfl
@[simp] theorem settle_now (l : List Frame) (s : State) : (settle l s).now = s.now := by
  induction l generalizing s with
  | nil => rfl
  | cons h t ih => cases h <;> simp [ih]
@[simp] theorem doAct_lastStore (s : State) (a : Act) : (doAct s a).lastStore = s.lastStore := by
  cases a <;> simp only [doAct] <;> (try split) <;> rfl
@[simp] theorem settle_lastStore (l : List Frame) (s : State) : (settle l s).lastStore = s.lastStore := by
  induction l generalizing s with
  | nil => rfl
  | cons h t ih => cases h <;> simp [ih]
@[simp] theorem doAct_muxsel (s : State) (a : Act) : (doAct s a).muxsel = s.muxsel := by
  cases a <;> simp only [doAct] <;> (try split) <;> rfl
@[simp] theorem settle_muxsel (l : List Frame) (s : State) : (settle l s).muxsel = s.muxsel := by
  induction l generalizing s with
  | nil => rfl
  | cons h t ih => cases h <;> simp [ih]
@[simp] theorem doAct_adcCsn (s : State) (a : Act) : (doAct s a).adcCsn = s.adcCsn := by
  cases a <;> simp only [doAct] <;> (try split) <;> rfl
@[simp] theorem settle_adcCsn (l : List Frame) (s : State) : (settle l s).adcCsn = s.adcCsn := by
  induction l generalizing s with
  | nil => rfl
  | cons h t ih => cases h <;> simp [ih]
@[simp] theorem doAct_canCsn (s : State) (a : Act) : (doAct s a).canCsn = s.canCsn := by
  cases a <;> simp only [doAct] <;> (try split) <;> rfl
@[simp] theorem settle_canCsn (l : List Frame) (s : State) : (settle l s).canCsn = s.canCsn := by
  induction l generalizing s with
  | nil => rfl
  | cons h t ih => cases h <;> simp [ih]
@[simp] theorem doAct_heldA (s : State) (a : Act) : (doAct s a).heldA = s.heldA := by
  cases a <;> simp only [doAct] <;> (try split) <;> rfl
@[simp] theorem settle_heldA (l : List Frame) (s : State) : (settle l s).heldA = s.heldA := by
  induction l generalizing s with
  | nil => rfl
  | cons h t ih => cases h <;> simp [ih]
@[simp] theorem doAct_heldB (s : State) (a : Act) : (doAct s a).heldB = s.heldB := by
  cases a <;> simp only [doAct] <;> (try split) <;> rfl
@[simp] theorem settle_heldB (l : List Frame) (s : State) : (settle l s).heldB = s.heldB := by
  induction l generalizing s with
  | nil => rfl
  | cons h t ih => cases h <;> simp [ih]
@[simp] theorem doAct_cfgvA (s : State) (a : Act) : (doAct s a).cfgvA = s.cfgvA := by
  cases a <;> simp only [doAct] <;> (try split) <;> rfl
@[simp] theorem settle_cfgvA (l : List Frame) (s : State) : (settle l s).cfgvA = s.cfgvA := by
  induction l generalizing s with
  | nil => rfl
  | cons h t ih => cases h <;> simp [ih]
@[simp] theorem doAct_cfgvB (s : State) (a : Act) : (doAct s a).cfgvB = s.cfgvB := by
  cases a <;> simp only [doAct] <;> (try split) <;> rfl
@[simp] theorem settle_cfgvB (l : List Frame) (s : State) : (settle l s).cfgvB = s.cfgvB := by
  induction l generalizing s with
  | nil => rfl
  | cons h t ih => cases h <;> simp [ih]
@[simp] theorem doAct_pay (s : State) (a : Act) : (doAct s a).pay = s.pay := by
  cases a <;> simp only [doAct] <;> (try split) <;> rfl
@[simp] theorem settle_pay (l : List Frame) (s : State) : (settle l s).pay = s.pay := by
  induction l generalizing s with
  | nil => rfl
  | cons h t ih => cases h <;> simp [ih]
@[simp] theorem doAct_fault (s : State) (a : Act) : (doAct s a).fault = s.fault := by
  cases a <;> simp only [doAct] <;> (try split) <;> rfl
@[simp] theorem settle_fault (l : List Frame) (s : State) : (settle l s).fault = s.fault := by
  induction l generalizing s with
  | nil => rfl
  | cons h t ih => cases h <;> simp [ih]
@[simp] theorem doAct_refused (s : State) (a : Act) : (doAct s a).refused = s.refused := by
  cases a <;> simp only [doAct] <;> (try split) <;> rfl
@[simp] theorem settle_refused (l : List Frame) (s : State) : (settle l s).refused = s.refused := by
  induction l generalizing s with
  | nil => rfl
  | cons h t ih => cases h <;> simp [ih]
@[simp] theorem doAct_trace (s : State) (a : Act) : (doAct s a).trace = s.trace := by
  cases a <;> simp only [doAct] <;> (try split) <;> rfl
@[simp] theorem settle_trace (l : List Frame) (s : State) : (settle l s).trace = s.trace := by
  induction l generalizing s with
  | nil => rfl
  | cons h t ih => cases h <;> simp [ih]
@[simp] theorem doAct_rx (s : State) (a : Act) : (doAct s a).rx = s.rx := by
  cases a <;> simp only [doAct] <;> (try split) <;> rfl
@[simp] theorem settle_rx (l : List Frame) (s : State) : (settle l s).rx = s.rx := by
  induction l generalizing s with
  | nil => rfl
  | cons h t ih => cases h <;> simp [ih]
@[simp] theorem doAct_lastClk (s : State) (a : Act) : (doAct s a).lastClk = s.lastClk := by
  cases a <;> simp only [doAct] <;> (try split) <;> rfl
@[simp] theorem settle_lastClk (l : List Frame) (s : State) : (settle l s).lastClk = s.lastClk := by
  induction l generalizing s with
  | nil => rfl
  | cons h t ih => cases h <;> simp [ih]
@[simp] theorem doAct_waited (s : State) (a : Act) : (doAct s a).waited = s.waited := by
  cases a <;> simp only [doAct] <;> (try split) <;> rfl
@[simp] theorem settle_waited (l : List Frame) (s : State) : (settle l s).waited = s.waited := by
  induction l generalizing s with
  | nil => rfl
  | cons h t ih => cases h <;> simp [ih]
@[simp] theorem doAct_env (s : State) (a : Act) : (doAct s a).env = s.env := by
  cases a <;> simp only [doAct] <;> (try split) <;> rfl
@[simp] theorem settle_env (l : List Frame) (s : State) : (settle l s).env = s.env := by
  induction l generalizing s with
  | nil => rfl
  | cons h t ih => cases h <;> simp [ih]
@[simp] theorem doAct_params (s : State) (a : Act) : (doAct s a).params = s.params := by
  cases a <;> simp only [doAct] <;> (try split) <;> rfl
@[simp] theorem settle_params (l : List Frame) (s : State) : (settle l s).params = s.params := by
  induction l generalizing s with
  | nil => rfl
  | cons h t ih => cases h <;> simp [ih]

/-- A silent action does not look at what is in progress. -/
theorem doAct_agenda (s : State) (a : Act) (l : List Frame) :
    doAct { s with agenda := l } a = { doAct s a with agenda := l } := by
  cases a <;> simp only [doAct] <;> (try split) <;> rfl

/-- Silent actions keep the byte maps canonical. -/
theorem settle_memory_wf (l : List Frame) (s : State) (h : s.canRegs.wf ∧ s.txb0.wf) :
    (settle l s).canRegs.wf ∧ (settle l s).txb0.wf := by
  induction l generalizing s with
  | nil => exact h
  | cons f t ih =>
    cases f with
    | act a =>
      refine ih _ ?_
      cases a <;> simp only [doAct] <;> (try split) <;> first
        | exact h
        | exact ⟨Mem.wf_set _ _ h.1, h.2⟩
        | exact ⟨h.1, Mem.wf_setList _ _ h.2⟩
    | op i => exact h
    | log c => exact h
    | word n w => exact h

/-! ### The event boundary -/

@[simp] theorem State.usedFault_window (s : State) : s.usedFault.window = s.window := rfl
@[simp] theorem State.passed_window (s : State) : s.passed.window = s.window := by
  unfold State.passed; split <;> rfl

/-- Where no condition is signalled the operation goes on from the state after the boundary. -/
theorem atBoundary_calm {s : State} (h : s.Calm) (k : State → Result) : atBoundary s k = k s.passed := by
  unfold atBoundary State.passed
  rcases h with h | h
  · simp [h]
  · cases hw : s.window <;> simp [h]

/-- Where a condition is signalled in a running phase the loop fault is taken. -/
theorem atBoundary_running {s : State} {c : Nat} (hw : s.window = .running) (h : s.faultIn = some c)
    (k : State → Result) : atBoundary s k = .next (takeLoopFault (.signalled c) s.usedFault) := by
  simp [atBoundary, hw, h]

/-- Where a condition is signalled during shutdown the run ends. -/
theorem atBoundary_shutdown {s : State} {c : Nat} (hw : s.window = .shutdown) (h : s.faultIn = some c)
    (k : State → Result) : atBoundary s k = .next (endFailed (.signalled c) s.usedFault) := by
  simp [atBoundary, hw, h]

/-- All an event boundary can do: pass, take a loop fault, or end the run. -/
theorem atBoundary_next {s t : State} {k : State → Result} (h : atBoundary s k = .next t) :
    (s.Calm ∧ k s.passed = .next t) ∨
    (∃ c, s.window = .running ∧ s.faultIn = some c ∧ t = takeLoopFault (.signalled c) s.usedFault) ∨
    (∃ c, s.window = .shutdown ∧ s.faultIn = some c ∧ t = endFailed (.signalled c) s.usedFault) := by
  rcases hf : s.faultIn with _ | c
  · have hc : s.Calm := .inr hf
    exact .inl ⟨hc, by rwa [atBoundary_calm hc] at h⟩
  · cases hw : s.window with
    | outside =>
      have hc : s.Calm := .inl hw
      exact .inl ⟨hc, by rwa [atBoundary_calm hc] at h⟩
    | running =>
      rw [atBoundary_running hw hf] at h
      exact .inr (.inl ⟨c, rfl, rfl, by simpa using h.symm⟩)
    | shutdown =>
      rw [atBoundary_shutdown hw hf] at h
      exact .inr (.inr ⟨c, rfl, rfl, by simpa using h.symm⟩)

@[simp] theorem State.passed_x (s : State) : s.passed.x = s.x := by
  unfold State.passed; split <;> rfl
@[simp] theorem State.passed_ts (s : State) : s.passed.ts = s.ts := by
  unfold State.passed; split <;> rfl
@[simp] theorem State.passed_now (s : State) : s.passed.now = s.now := by
  unfold State.passed; split <;> rfl
@[simp] theorem State.passed_pc (s : State) : s.passed.pc = s.pc := by
  unfold State.passed; split <;> rfl
@[simp] theorem State.passed_lastStore (s : State) : s.passed.lastStore = s.lastStore := by
  unfold State.passed; split <;> rfl
@[simp] theorem State.passed_lastTx (s : State) : s.passed.lastTx = s.lastTx := by
  unfold State.passed; split <;> rfl
@[simp] theorem State.passed_canst (s : State) : s.passed.canst = s.canst := by
  unfold State.passed; split <;> rfl
@[simp] theorem State.passed_muxsel (s : State) : s.passed.muxsel = s.muxsel := by
  unfold State.passed; split <;> rfl
@[simp] theorem State.passed_adcCsn (s : State) : s.passed.adcCsn = s.adcCsn := by
  unfold State.passed; split <;> rfl
@[simp] theorem State.passed_canCsn (s : State) : s.passed.canCsn = s.canCsn := by
  unfold State.passed; split <;> rfl
@[simp] theorem State.passed_heldA (s : State) : s.passed.heldA = s.heldA := by
  unfold State.passed; split <;> rfl
@[simp] theorem State.passed_heldB (s : State) : s.passed.heldB = s.heldB := by
  unfold State.passed; split <;> rfl
@[simp] theorem State.passed_cfgvA (s : State) : s.passed.cfgvA = s.cfgvA := by
  unfold State.passed; split <;> rfl
@[simp] theorem State.passed_cfgvB (s : State) : s.passed.cfgvB = s.cfgvB := by
  unfold State.passed; split <;> rfl
@[simp] theorem State.passed_pay (s : State) : s.passed.pay = s.pay := by
  unfold State.passed; split <;> rfl
@[simp] theorem State.passed_payLive (s : State) : s.passed.payLive = s.payLive := by
  unfold State.passed; split <;> rfl
@[simp] theorem State.passed_fault (s : State) : s.passed.fault = s.fault := by
  unfold State.passed; split <;> rfl
@[simp] theorem State.passed_refused (s : State) : s.passed.refused = s.refused := by
  unfold State.passed; split <;> rfl
@[simp] theorem State.passed_trace (s : State) : s.passed.trace = s.trace := by
  unfold State.passed; split <;> rfl
@[simp] theorem State.passed_agenda (s : State) : s.passed.agenda = s.agenda := by
  unfold State.passed; split <;> rfl
@[simp] theorem State.passed_rx (s : State) : s.passed.rx = s.rx := by
  unfold State.passed; split <;> rfl
@[simp] theorem State.passed_ret (s : State) : s.passed.ret = s.ret := by
  unfold State.passed; split <;> rfl
@[simp] theorem State.passed_lastClk (s : State) : s.passed.lastClk = s.lastClk := by
  unfold State.passed; split <;> rfl
@[simp] theorem State.passed_waited (s : State) : s.passed.waited = s.waited := by
  unfold State.passed; split <;> rfl
@[simp] theorem State.passed_canRegs (s : State) : s.passed.canRegs = s.canRegs := by
  unfold State.passed; split <;> rfl
@[simp] theorem State.passed_txb0 (s : State) : s.passed.txb0 = s.txb0 := by
  unfold State.passed; split <;> rfl
@[simp] theorem State.passed_params (s : State) : s.passed.params = s.params := by
  unfold State.passed; split <;> rfl

/-! ### Taking a loop fault -/

/-- What taking a loop fault leaves and changes (R139). -/
theorem takeLoopFault_taken (c : Cause) (s : State) : FaultTaken c s (takeLoopFault c s) := by
  simp [FaultTaken, takeLoopFault, State.loosePins]

/-! ### The primitives: everything each can do -/

/-- Acquire: the boundary takes a condition, the lock is taken, or the block holds (R76). -/
theorem opAcquire_calm {bus : Bus} {s : State} (h : s.Calm) :
    opAcquire bus s =
      if s.passed.grantIn bus && !s.held bus then
        event { ((s.passed.usedGrant bus).setHeld true bus).setCfgv false bus with rx := [] } (.acq bus)
      else .next ((s.passed.usedGrant bus).push [.op (.acq bus)]) := by
  have hh : s.passed.held bus = s.held bus := by cases bus <;> simp [State.held]
  rw [opAcquire, atBoundary_calm h, hh]

theorem opConfigure_calm {bus : Bus} {s : State} (h : s.Calm) (hh : s.held bus = true) :
    opConfigure bus s = event (s.passed.setCfgv true bus) (.cfg bus (s.busConfig bus).1 (s.busConfig bus).2) := by
  have hb : s.passed.busConfig bus = s.busConfig bus := by cases bus <;> simp [State.busConfig]
  rw [opConfigure, if_pos hh, atBoundary_calm h, hb]

theorem opCsLow_calm {d : Device} {s : State} (h : s.Calm) (hh : s.held d.bus = true) (hc : s.cfgv d.bus = true) :
    opCsLow d s = event (s.passed.setCsn false d) (.csl d) := by
  rw [opCsLow, if_pos (by simp [hh, hc]), atBoundary_calm h]

theorem opWait_calm {n : Nat} {s : State} (h : s.Calm) (hn : 0 < n) :
    opWait n s = event { s.passed with waited := s.waited + n } (.wait n) := by
  rw [opWait, if_pos hn, atBoundary_calm h, State.passed_waited]

theorem opXfer_calm {bus : Bus} {tx : Byte} {s : State} (h : s.Calm) (hh : s.held bus = true)
    (hc : s.cfgv bus = true) (hs : s.csn bus.device = false) :
    opXfer bus tx s =
      event { s.passed.usedRx with rx := s.rx ++ [s.passed.rxIn] } (.xfer bus tx s.passed.rxIn) := by
  rw [opXfer, if_pos (by simp [hh, hc, hs]), atBoundary_calm h, State.passed_rx]

theorem opCsHigh_calm {d : Device} {s : State} (h : s.Calm) :
    opCsHigh d s = event (s.passed.setCsn true d) (.csh d) := by
  rw [opCsHigh, atBoundary_calm h]

theorem opRelease_calm {bus : Bus} {s : State} (h : s.Calm) (hh : s.held bus = true)
    (hs : s.csn bus.device = true) :
    opRelease bus s = event (s.passed.setHeld false bus) (.rel bus) := by
  rw [opRelease, if_pos (by simp [hh, hs]), atBoundary_calm h]

theorem opSetMux_calm {sel : BitVec 4} {s : State} (h : s.Calm) :
    opSetMux sel s = event { s.passed with muxsel := sel } (.mux sel) := by
  rw [opSetMux, atBoundary_calm h]

/-! ### Runs -/

/-- A run of m steps that goes through is followed by a run of n. -/
theorem run_add {m n : Nat} {s t : State} (h : Host.Core.run Sys2Proof.core m s = .next t) :
    Host.Core.run Sys2Proof.core (m + n) s = Host.Core.run Sys2Proof.core n t := by
  induction m generalizing s with
  | zero =>
    cases h
    simp
  | succ m ih =>
    rw [Nat.succ_add]
    simp only [Host.Core.run] at h ⊢
    split at h
    · exact ih h
    · cases h
    · cases h

/-- An operation's run, then a run of the machine. -/
theorem RunsTo.add {i : Instr} {m n : Nat} {s t u : State} (h : RunsTo i m s t)
    (h' : Host.Core.run Sys2Proof.core n t = .next u) : RunsTo i (m + n) s u := by
  obtain ⟨t₁, h₁, h₂⟩ := h
  exact ⟨t₁, h₁, (run_add h₂).trans h'⟩

/-! ### The lock under the fairness assumption (R50) -/

/-- What the j-th request of a bus from here is answered. -/
def State.grantAt (s : State) (bus : Bus) (j : Nat) : Bool :=
  match bus with
  | .busA => (s.env.grantA[j]?).getD (Config.grantDraw .busA (s.env.askedA + j))
  | .busB => (s.env.grantB[j]?).getD (Config.grantDraw .busB (s.env.askedB + j))

/-- No condition is ever signalled, or none can be in this phase. -/
def State.NeverStruck (s : State) : Prop :=
  s.window = .outside ∨ ((∀ f ∈ s.env.fault, f = none) ∧ ∀ n, Config.faultDraw n = none)

theorem State.NeverStruck.calm {s : State} (h : s.NeverStruck) : s.Calm := by
  refine h.imp id fun ⟨hl, hd⟩ => ?_
  unfold State.faultIn draw
  split
  · exact hl _ (by simp_all)
  · exact hd _

theorem draw_eq {α : Type} (l : List α) (free : α) : draw l free = l[0]?.getD free := by cases l <;> rfl

/-- The next request's answer is the grant at hand. -/
theorem State.grantAt_zero (s : State) (bus : Bus) : s.grantAt bus 0 = s.passed.grantIn bus := by
  unfold State.passed
  cases bus <;> split <;> simp [State.grantAt, State.grantIn, State.usedFault, draw_eq]

/-- A request used up moves the answers of a bus by one. -/
theorem State.grantAt_succ (s : State) (bus : Bus) (j : Nat) :
    (s.passed.usedGrant bus).grantAt bus j = s.grantAt bus (j + 1) := by
  unfold State.passed
  cases bus <;> split <;>
    simp [State.grantAt, State.usedGrant, State.usedFault, List.getElem?_tail, Nat.add_assoc, Nat.add_comm 1]

/-- A block that is not struck is not struck at its next request either. -/
theorem State.NeverStruck.request {s : State} (h : s.NeverStruck) (bus : Bus) : (s.passed.usedGrant bus).NeverStruck := by
  refine h.imp (fun hw => by cases bus <;> simpa [State.window] using hw) fun ⟨hl, hd⟩ => ⟨?_, hd⟩
  unfold State.passed
  cases bus <;> split <;> simp only [State.usedGrant, State.usedFault] <;>
    first
      | exact hl
      | exact fun f hf => hl f (List.mem_of_mem_tail hf)

/-- An acquisition in progress whose j-th request is granted has the lock by that request at the latest. -/
theorem acquire_granted_at {bus : Bus} {j : Nat} {s : State} (hh : s.held bus = false) (hc : s.NeverStruck)
    (hg : s.grantAt bus j = true) :
    ∃ n t, n ≤ j + 1 ∧ Host.Core.run Sys2Proof.core n (s.push [.op (.acq bus)]) = .next t ∧ t.held bus = true ∧
      t.trace = s.trace ++ [.acq bus] := by
  have hs : step (s.push [.op (.acq bus)]) = opAcquire bus s := rfl
  rw [opAcquire_calm hc.calm, hh, Bool.not_false, Bool.and_true, ← State.grantAt_zero] at hs
  by_cases h0 : s.grantAt bus 0 = true
  · rw [if_pos h0, event, done] at hs
    refine ⟨1, _, Nat.le_add_left 1 j, by simp only [Host.Core.run, Sys2Proof.core, hs]; rfl, ?_, ?_⟩
    · cases bus <;> simp [State.held, State.setHeld]
    · simp
  · rw [if_neg h0] at hs
    cases j with
    | zero => exact absurd hg h0
    | succ j =>
      have hh' : (s.passed.usedGrant bus).held bus = false := by cases bus <;> simpa [State.held] using hh
      obtain ⟨n, t, hn, hr, ht, htr⟩ := acquire_granted_at (j := j) hh' (hc.request bus) ((s.grantAt_succ bus j).trans hg)
      exact ⟨n + 1, t, Nat.succ_le_succ hn, by simp only [Host.Core.run, Sys2Proof.core, hs]; exact hr, ht, by simpa using htr⟩

/-- What the fairness assumption gives (R50): an acquisition in progress that no condition strikes is granted. -/
theorem acquire_granted_of_fairness (hf : LockFairness) {bus : Bus} {s : State} (hh : s.held bus = false)
    (hc : s.NeverStruck) :
    ∃ n t, Host.Core.run Sys2Proof.core n (s.push [.op (.acq bus)]) = .next t ∧ t.held bus = true ∧
      t.trace = s.trace ++ [.acq bus] := by
  obtain ⟨j, hj⟩ : ∃ j, s.grantAt bus j = true := by
    cases bus with
    | busA =>
      obtain ⟨m, hm, h⟩ := hf .busA (s.env.askedA + s.env.grantA.length)
      refine ⟨m - s.env.askedA, ?_⟩
      rw [State.grantAt, List.getElem?_eq_none (by omega), Option.getD_none, Nat.add_sub_cancel' (by omega), h]
    | busB =>
      obtain ⟨m, hm, h⟩ := hf .busB (s.env.askedB + s.env.grantB.length)
      refine ⟨m - s.env.askedB, ?_⟩
      rw [State.grantAt, List.getElem?_eq_none (by omega), Option.getD_none, Nat.add_sub_cancel' (by omega), h]
  obtain ⟨n, t, -, h⟩ := acquire_granted_at hh hc hj
  exact ⟨n, t, h⟩

end Sys2Proof.Machine
end

