-- ==== Sys2Proof/Laws/PerInstr.lean ====
section
/-! SUPPORT. What is said of every instruction as syntax: the length of its encoding is one of its place's format
(30_encoding.md R54). -/

namespace Sys2Proof.Laws.EncodedLength

/-- The lengths in bytes of the formats at a place (R54; SEQ and MUX4 rounded up to whole bytes). -/
def formatFits : Place → Nat → Bool
  | .phase, n | .busAOut, n | .busAIn, n | .payload, n => n = 2
  | .select, n => n = 1
  | .busB, n => n = 1 || n = 3 || (6 ≤ n && n ≤ 14)

/-- A well-formed instruction that has an encoding has one of a length its place's format has. -/
def Statement (i : Instr) : Prop :=
  ∀ pl bs, i.wellFormed = true → encode i = some (pl, bs) → formatFits pl bs.length = true

theorem adcCmd (a : BitVec 3) (f : Byte) : Statement (.adcCmd a f) := by
  rintro _ _ - ⟨⟩
  rfl

theorem adcCmdA0 (f : Byte) : Statement (.adcCmdA0 f) := by
  rintro _ _ - ⟨⟩
  rfl

theorem adcCmdA1 (f : Byte) : Statement (.adcCmdA1 f) := by
  rintro _ _ - ⟨⟩
  rfl

theorem adcCmdA2 (f : Byte) : Statement (.adcCmdA2 f) := by
  rintro _ _ - ⟨⟩
  rfl

theorem adcCmdA3 (f : Byte) : Statement (.adcCmdA3 f) := by
  rintro _ _ - ⟨⟩
  rfl

theorem adcCmdA4 (f : Byte) : Statement (.adcCmdA4 f) := by
  rintro _ _ - ⟨⟩
  rfl

theorem adcCmdA5 (f : Byte) : Statement (.adcCmdA5 f) := by
  rintro _ _ - ⟨⟩
  rfl

theorem adcCmdA6 (f : Byte) : Statement (.adcCmdA6 f) := by
  rintro _ _ - ⟨⟩
  rfl

theorem adcCmdA7 (f : Byte) : Statement (.adcCmdA7 f) := by
  rintro _ _ - ⟨⟩
  rfl

theorem adcAnswer (hi : BitVec 4) (v : Reading) : Statement (.adcAnswer hi v) := by
  rintro _ _ - ⟨⟩
  rfl

theorem muxPattern (s : BitVec 4) : Statement (.muxPattern s) := by
  rintro _ _ - ⟨⟩
  rfl

theorem canResetCmd : Statement (.canResetCmd) := by
  rintro _ _ - ⟨⟩
  rfl

theorem canWriteCmd (a v : Byte) : Statement (.canWriteCmd a v) := by
  rintro _ _ - ⟨⟩
  rfl

theorem canWriteCmdW1 : Statement (.canWriteCmdW1) := by
  rintro _ _ - ⟨⟩
  rfl

theorem canWriteCmdW2 (v : Byte) : Statement (.canWriteCmdW2 v) := by
  rintro _ _ - ⟨⟩
  rfl

theorem canWriteCmdW3 (v : Byte) : Statement (.canWriteCmdW3 v) := by
  rintro _ _ - ⟨⟩
  rfl

theorem canWriteCmdW4 (v : Byte) : Statement (.canWriteCmdW4 v) := by
  rintro _ _ - ⟨⟩
  rfl

theorem canWriteCmdW5 : Statement (.canWriteCmdW5) := by
  rintro _ _ - ⟨⟩
  rfl

theorem canLoadTx0Cmd (id : BitVec 11) (data : List Byte) : Statement (.canLoadTx0Cmd id data) := by
  rintro _ _ h ⟨⟩
  have h : data.length ≤ 8 := of_decide_eq_true h
  simp [formatFits, loadHeader]
  omega

theorem canRts0Cmd : Statement (.canRts0Cmd) := by
  rintro _ _ - ⟨⟩
  rfl

theorem rd16Word (v : Reading) : Statement (.rd16Word v) := by
  rintro _ _ - ⟨⟩
  rfl

theorem pIdle : Statement (.pIdle) := by
  rintro _ _ - ⟨⟩
  rfl

theorem canReset : Statement (.canReset) := by
  rintro _ _ - ⟨⟩
  rfl

theorem canConfigure : Statement (.canConfigure) := by
  rintro _ _ - ⟨⟩
  rfl

theorem schedInit : Statement (.schedInit) := by
  rintro _ _ - ⟨⟩
  rfl

theorem stopCheck : Statement (.stopCheck) := by
  rintro _ _ - ⟨⟩
  rfl

theorem sampleAll : Statement (.sampleAll) := by
  rintro _ _ - ⟨⟩
  rfl

theorem readClock : Statement (.readClock) := by
  rintro _ _ - ⟨⟩
  rfl

theorem storeIfDue : Statement (.storeIfDue) := by
  rintro _ _ - ⟨⟩
  rfl

theorem txIfDue : Statement (.txIfDue) := by
  rintro _ _ - ⟨⟩
  rfl

theorem loopSleep : Statement (.loopSleep) := by
  rintro _ _ - ⟨⟩
  rfl

theorem shutdown : Statement (.shutdown) := by
  rintro _ _ - ⟨⟩
  rfl

theorem pStopped : Statement (.pStopped) := by
  rintro _ _ - ⟨⟩
  rfl

theorem pFailed : Statement (.pFailed) := by
  rintro _ _ - ⟨⟩
  rfl

theorem cfgWrite1 : Statement (.cfgWrite1) := by
  rintro _ _ - ⟨⟩
  rfl

theorem cfgWrite2 : Statement (.cfgWrite2) := by
  rintro _ _ - ⟨⟩
  rfl

theorem cfgWrite3 : Statement (.cfgWrite3) := by
  rintro _ _ - ⟨⟩
  rfl

theorem cfgWrite4 : Statement (.cfgWrite4) := by
  rintro _ _ - ⟨⟩
  rfl

theorem cfgWrite5 : Statement (.cfgWrite5) := by
  rintro _ _ - ⟨⟩
  rfl

theorem readDirect0 : Statement (.readDirect0) := by
  rintro _ _ - ⟨⟩
  rfl

theorem readDirect1 : Statement (.readDirect1) := by
  rintro _ _ - ⟨⟩
  rfl

theorem readDirect2 : Statement (.readDirect2) := by
  rintro _ _ - ⟨⟩
  rfl

theorem readDirect3 : Statement (.readDirect3) := by
  rintro _ _ - ⟨⟩
  rfl

theorem readDirect4 : Statement (.readDirect4) := by
  rintro _ _ - ⟨⟩
  rfl

theorem readDirect5 : Statement (.readDirect5) := by
  rintro _ _ - ⟨⟩
  rfl

theorem readDirect6 : Statement (.readDirect6) := by
  rintro _ _ - ⟨⟩
  rfl

theorem readMuxed7 : Statement (.readMuxed7) := by
  rintro _ _ - ⟨⟩
  rfl

theorem readMuxed8 : Statement (.readMuxed8) := by
  rintro _ _ - ⟨⟩
  rfl

theorem readMuxed9 : Statement (.readMuxed9) := by
  rintro _ _ - ⟨⟩
  rfl

theorem readMuxed10 : Statement (.readMuxed10) := by
  rintro _ _ - ⟨⟩
  rfl

theorem readMuxed11 : Statement (.readMuxed11) := by
  rintro _ _ - ⟨⟩
  rfl

theorem readMuxed12 : Statement (.readMuxed12) := by
  rintro _ _ - ⟨⟩
  rfl

theorem readMuxed13 : Statement (.readMuxed13) := by
  rintro _ _ - ⟨⟩
  rfl

theorem readMuxed14 : Statement (.readMuxed14) := by
  rintro _ _ - ⟨⟩
  rfl

theorem readMuxed15 : Statement (.readMuxed15) := by
  rintro _ _ - ⟨⟩
  rfl

theorem readMuxed16 : Statement (.readMuxed16) := by
  rintro _ _ - ⟨⟩
  rfl

theorem readMuxed17 : Statement (.readMuxed17) := by
  rintro _ _ - ⟨⟩
  rfl

theorem readMuxed18 : Statement (.readMuxed18) := by
  rintro _ _ - ⟨⟩
  rfl

theorem readMuxed19 : Statement (.readMuxed19) := by
  rintro _ _ - ⟨⟩
  rfl

theorem readMuxed20 : Statement (.readMuxed20) := by
  rintro _ _ - ⟨⟩
  rfl

theorem readMuxed21 : Statement (.readMuxed21) := by
  rintro _ _ - ⟨⟩
  rfl

theorem readMuxed22 : Statement (.readMuxed22) := by
  rintro _ _ - ⟨⟩
  rfl

theorem sendChunk0 : Statement (.sendChunk0) := by
  rintro _ _ - ⟨⟩
  rfl

theorem sendChunk1 : Statement (.sendChunk1) := by
  rintro _ _ - ⟨⟩
  rfl

theorem sendChunk2 : Statement (.sendChunk2) := by
  rintro _ _ - ⟨⟩
  rfl

theorem sendChunk3 : Statement (.sendChunk3) := by
  rintro _ _ - ⟨⟩
  rfl

theorem sendChunk4 : Statement (.sendChunk4) := by
  rintro _ _ - ⟨⟩
  rfl

theorem sendChunk5 : Statement (.sendChunk5) := by
  rintro _ _ - ⟨⟩
  rfl

theorem acq (b : Bus) : Statement (.acq b) := by
  rintro _ _ - ⟨⟩

theorem cfg (b : Bus) : Statement (.cfg b) := by
  rintro _ _ - ⟨⟩

theorem csl (d : Device) : Statement (.csl d) := by
  rintro _ _ - ⟨⟩

theorem wait (t : Nat) : Statement (.wait t) := by
  rintro _ _ - ⟨⟩

theorem xfer (b : Bus) (tx : Byte) : Statement (.xfer b tx) := by
  rintro _ _ - ⟨⟩

theorem csh (d : Device) : Statement (.csh d) := by
  rintro _ _ - ⟨⟩

theorem rel (b : Bus) : Statement (.rel b) := by
  rintro _ _ - ⟨⟩

theorem burst (b : Bus) (d : Device) (setup : Nat) (tx : List Byte) : Statement (.burst b d setup tx) := by
  rintro _ _ - ⟨⟩

theorem muxSet (s : BitVec 4) : Statement (.muxSet s) := by
  rintro _ _ - ⟨⟩

theorem readAdc (a : BitVec 3) : Statement (.readAdc a) := by
  rintro _ _ - ⟨⟩

theorem canInit : Statement (.canInit) := by
  rintro _ _ - ⟨⟩

theorem sendFrame (id : BitVec 16) (data : List Byte) : Statement (.sendFrame id data) := by
  rintro _ _ - ⟨⟩

theorem pack : Statement (.pack) := by
  rintro _ _ - ⟨⟩

theorem split (k : Fin 6) : Statement (.split k) := by
  rintro _ _ - ⟨⟩

theorem sendReadings : Statement (.sendReadings) := by
  rintro _ _ - ⟨⟩

theorem run : Statement (.run) := by
  rintro _ _ - ⟨⟩

end Sys2Proof.Laws.EncodedLength
end

