-- ==== Sys2Proof/Tests/Slice0.lean ====
section
/-! SUPPORT. The model's own tests: the WellFormed smoke tests, words written out from 30_encoding.md, one-step tests
with the expected results of 95_test_vectors.md (V<n>) or of a rule's example, and for every obligation that has
hypotheses a state and operands that meet them all. -/

namespace Sys2Proof.Machine.Tests

open Sys2Proof

/-! ### WellFormed: each check refuses an ill-formed term -/

theorem test_wellFormed_refuses_wait_zero : (Instr.wait 0).wellFormed = false := rfl
theorem test_wellFormed_refuses_wrong_bus : (Instr.burst .busB .adc 1 [0x90, 0x00]).wellFormed = false := rfl
theorem test_wellFormed_refuses_empty_burst : (Instr.burst .busA .adc 1 []).wellFormed = false := rfl
theorem test_wellFormed_refuses_nine_bytes : (Instr.canLoadTx0Cmd 0x100 (List.replicate 9 0xAA)).wellFormed = false := rfl
theorem test_wellFormed_takes_eight_bytes : (Instr.canLoadTx0Cmd 0x100 (List.replicate 8 0xAA)).wellFormed = true := rfl

/-! ### Decoding, words written out from the encodings -/

/-- V1 to V8, with a fill byte 0x5A. -/
theorem test_decode_adc_commands :
    decode .busAOut [0x80, 0x5A] = .ok (.adcCmdA0 0x5A) ∧ decode .busAOut [0x90, 0x5A] = .ok (.adcCmdA1 0x5A) ∧
    decode .busAOut [0xA0, 0x5A] = .ok (.adcCmdA2 0x5A) ∧ decode .busAOut [0xB0, 0x5A] = .ok (.adcCmdA3 0x5A) ∧
    decode .busAOut [0xC0, 0x5A] = .ok (.adcCmdA4 0x5A) ∧ decode .busAOut [0xD0, 0x5A] = .ok (.adcCmdA5 0x5A) ∧
    decode .busAOut [0xE0, 0x5A] = .ok (.adcCmdA6 0x5A) ∧ decode .busAOut [0xF0, 0x5A] = .ok (.adcCmdA7 0x5A) ∧
    encode (.adcCmd 3 0x5A) = some (.busAOut, [0xB0, 0x5A]) :=
  ⟨rfl, rfl, rfl, rfl, rfl, rfl, rfl, rfl, rfl⟩

/-- R55: a first byte with bit 7 clear or a low bit set is no command. -/
theorem test_decode_refuses_other_adc_bytes :
    decode .busAOut [0x10, 0x00] = .error .notAnAdcCommand ∧ decode .busAOut [0x91, 0x00] = .error .notAnAdcCommand :=
  ⟨rfl, rfl⟩

/-- V9 to V18. -/
theorem test_decode_answers :
    decode .busAIn [0x00, 0x00] = .ok (.adcAnswer 0x0 0) ∧ decode .busAIn [0x0F, 0xFF] = .ok (.adcAnswer 0x0 4095) ∧
    decode .busAIn [0xFF, 0xFF] = .ok (.adcAnswer 0xF 4095) ∧ decode .busAIn [0xF0, 0x00] = .ok (.adcAnswer 0xF 0) ∧
    decode .busAIn [0x00, 0x64] = .ok (.adcAnswer 0x0 100) ∧ decode .busAIn [0x08, 0xFC] = .ok (.adcAnswer 0x0 2300) ∧
    decode .busAIn [0xA5, 0x5A] = .ok (.adcAnswer 0xA 1370) ∧ decode .busAIn [0x0A, 0xBC] = .ok (.adcAnswer 0x0 2748) ∧
    decode .busAIn [0x10, 0x01] = .ok (.adcAnswer 0x1 1) ∧ decode .busAIn [0x07, 0xFF] = .ok (.adcAnswer 0x0 2047) ∧
    decode .busAIn [0x08, 0x00] = .ok (.adcAnswer 0x0 2048) :=
  ⟨rfl, rfl, rfl, rfl, rfl, rfl, rfl, rfl, rfl, rfl, rfl⟩

/-- V19 to V25 (some), and a pattern of five lines refused. -/
theorem test_decode_select_patterns :
    decode .select [0b0000] = .ok (.muxPattern 0) ∧ decode .select [0b0101] = .ok (.muxPattern 5) ∧
    decode .select [0b1010] = .ok (.muxPattern 10) ∧ decode .select [0b1111] = .ok (.muxPattern 15) ∧
    decode .select [0b10000] = .error .notASelectPattern :=
  ⟨rfl, rfl, rfl, rfl, rfl⟩

/-- R59, R60, R64 and the fifteen bytes of R97 (t3, t2, t1 = 0x33, 0x22, 0x11); V51. -/
theorem test_decode_can_commands :
    decode .busB [0b11000000] = .ok .canResetCmd ∧ decode .busB [0b10000001] = .ok .canRts0Cmd ∧
    decode .busB [0x02, 0x0F, 0x80] = .ok .canWriteCmdW1 ∧ decode .busB [0x02, 0x28, 0x33] = .ok (.canWriteCmdW2 0x33) ∧
    decode .busB [0x02, 0x29, 0x22] = .ok (.canWriteCmdW3 0x22) ∧
    decode .busB [0x02, 0x2A, 0x11] = .ok (.canWriteCmdW4 0x11) ∧ decode .busB [0x02, 0x0F, 0x00] = .ok .canWriteCmdW5 ∧
    decode .busB [0x02, 0x0F, 0x40] = .ok (.canWriteCmd 0x0F 0x40) ∧
    encode (.canWriteCmd 0x28 0x05) = some (.busB, [0x02, 0x28, 0x05]) ∧
    decode .busB [0x03] = .error .notACanCommand ∧ decode .busB [] = .error .notACanCommand :=
  ⟨rfl, rfl, rfl, rfl, rfl, rfl, rfl, rfl, rfl, rfl, rfl⟩

/-- V30, V33, V36 (bytes after the opcode) and the last load of P2; a length byte that does not fit is refused. -/
theorem test_decode_loads :
    decode .busB [0x40, 0xFF, 0xE0, 0x00, 0x00, 0x08, 1, 2, 3, 4, 5, 6, 7, 8]
      = .ok (.canLoadTx0Cmd 0x7FF [1, 2, 3, 4, 5, 6, 7, 8]) ∧
    decode .busB [0x40, 0x20, 0x00, 0x00, 0x00, 0x00] = .ok (.canLoadTx0Cmd 0x100 []) ∧
    decode .busB [0x40, 0x24, 0x60, 0x00, 0x00, 0x02, 0xDE, 0xAD] = .ok (.canLoadTx0Cmd 0x123 [0xDE, 0xAD]) ∧
    decode .busB [0x40, 0x20, 0xA0, 0x00, 0x00, 0x06, 0x08, 0x34, 0x08, 0x98, 0x08, 0xFC]
      = .ok (.canLoadTx0Cmd 0x105 [0x08, 0x34, 0x08, 0x98, 0x08, 0xFC]) ∧
    decode .busB [0x40, 0x20, 0x00, 0x00, 0x00, 0x02, 0xDE] = .error .notACanCommand ∧
    decode .busB [0x40, 0x20, 0x01, 0x00, 0x00, 0x00] = .error .notACanCommand :=
  ⟨rfl, rfl, rfl, rfl, rfl, rfl⟩

/-- V38a to V38c, and a word with a high bit set refused. -/
theorem test_decode_reading_words :
    decode .payload [0x0F, 0xFF] = .ok (.rd16Word 4095) ∧ decode .payload [0x00, 0xFF] = .ok (.rd16Word 255) ∧
    decode .payload [0x01, 0x00] = .ok (.rd16Word 256) ∧ decode .payload [0x10, 0x00] = .error .notAReadingWord :=
  ⟨rfl, rfl, rfl, rfl⟩

/-- R17: the thirteen codes at index 0, as the sequencer runs them. -/
theorem test_decodePc_phases :
    decodePc 0b000000000 = .ok .pIdle ∧ decodePc 0b000100000 = .ok .canReset ∧ decodePc 0b001000000 = .ok .canConfigure ∧
    decodePc 0b001100000 = .ok .schedInit ∧ decodePc 0b010000000 = .ok .stopCheck ∧
    decodePc 0b010100000 = .ok .sampleAll ∧ decodePc 0b011000000 = .ok .readClock ∧
    decodePc 0b011100000 = .ok .storeIfDue ∧ decodePc 0b100000000 = .ok .txIfDue ∧ decodePc 0b100100000 = .ok .loopSleep ∧
    decodePc 0b101000000 = .ok .shutdown ∧ decodePc 0b101100000 = .ok .pStopped ∧ decodePc 0b110000000 = .ok .pFailed ∧
    decodePc 0b110100000 = .error (.unusedPhase 13) ∧ decodePc 0b001000101 = .error (.indexOutOfRange .canCfg 5) :=
  ⟨rfl, rfl, rfl, rfl, rfl, rfl, rfl, rfl, rfl, rfl, rfl, rfl, rfl, rfl, rfl⟩

/-- The step rows of phase 2 and phase 8 (R75 (3)). -/
theorem test_decode_write_and_chunk_rows :
    decode .phase [0, 0x40] = .ok .cfgWrite1 ∧ decode .phase [0, 0x41] = .ok .cfgWrite2 ∧
    decode .phase [0, 0x42] = .ok .cfgWrite3 ∧ decode .phase [0, 0x43] = .ok .cfgWrite4 ∧
    decode .phase [0, 0x44] = .ok .cfgWrite5 ∧
    decode .phase [1, 0x00] = .ok .sendChunk0 ∧ decode .phase [1, 0x01] = .ok .sendChunk1 ∧
    decode .phase [1, 0x02] = .ok .sendChunk2 ∧ decode .phase [1, 0x03] = .ok .sendChunk3 ∧
    decode .phase [1, 0x04] = .ok .sendChunk4 ∧ decode .phase [1, 0x05] = .ok .sendChunk5 := by decide

/-- The step rows of phase 5 (R75 (3)). -/
theorem test_decode_read_rows :
    decode .phase [0, 0xA0] = .ok .readDirect0 ∧ decode .phase [0, 0xA1] = .ok .readDirect1 ∧
    decode .phase [0, 0xA2] = .ok .readDirect2 ∧ decode .phase [0, 0xA3] = .ok .readDirect3 ∧
    decode .phase [0, 0xA4] = .ok .readDirect4 ∧ decode .phase [0, 0xA5] = .ok .readDirect5 ∧
    decode .phase [0, 0xA6] = .ok .readDirect6 ∧ decode .phase [0, 0xA7] = .ok .readMuxed7 ∧
    decode .phase [0, 0xA8] = .ok .readMuxed8 ∧ decode .phase [0, 0xA9] = .ok .readMuxed9 ∧
    decode .phase [0, 0xAA] = .ok .readMuxed10 ∧ decode .phase [0, 0xAB] = .ok .readMuxed11 ∧
    decode .phase [0, 0xAC] = .ok .readMuxed12 ∧ decode .phase [0, 0xAD] = .ok .readMuxed13 ∧
    decode .phase [0, 0xAE] = .ok .readMuxed14 ∧ decode .phase [0, 0xAF] = .ok .readMuxed15 ∧
    decode .phase [0, 0xB0] = .ok .readMuxed16 ∧ decode .phase [0, 0xB1] = .ok .readMuxed17 ∧
    decode .phase [0, 0xB2] = .ok .readMuxed18 ∧ decode .phase [0, 0xB3] = .ok .readMuxed19 ∧
    decode .phase [0, 0xB4] = .ok .readMuxed20 ∧ decode .phase [0, 0xB5] = .ok .readMuxed21 ∧
    decode .phase [0, 0xB6] = .ok .readMuxed22 := by decide

/-- Words as spec/opcode_table.json numbers them. -/
theorem test_table_words :
    decodeTableWord 16 0xB000 = some (.adcCmdA3 0x00) ∧ decodeTableWord 24 0x020F80 = some .canWriteCmdW1 ∧
    decodeTableWord 48 0x402000000002 = some (.canLoadTx0Cmd 0x100 [0, 0]) ∧ decodeTableWord 8 0xC0 = some .canResetCmd ∧
    decodeTableWord 16 0x0C0 = some .readClock ∧ decodeTableWord 16 0x0B6 = some .readMuxed22 ∧
    decodeTableWord 16 0x0FFF = some (.rd16Word 4095) ∧ decodeTableWord 16 0x5123 = some (.adcAnswer 5 0x123) :=
  ⟨rfl, rfl, rfl, rfl, rfl, rfl, rfl, rfl⟩

/-- Lengths of no whole number of bytes: SEQ is 9 bits, MUX4 is 4 (R54); the unused phase code 13 is no reading word. -/
theorem test_table_words_of_odd_length :
    decodeTableWord 9 0x0C0 = some .readClock ∧ decodeTableWord 9 0x1A0 = none ∧
    decodeTableWord 4 0x5 = some (.muxPattern 5) ∧ decodeTableWord 12 0xFFF = none := ⟨rfl, rfl, rfl, rfl⟩

/-! ### One step -/

/-- An environment of `n` quiet boundaries and granted locks. -/
def quiet (n : Nat) (rx : List Byte) : Env :=
  { start := [true], fault := List.replicate n none, grantA := List.replicate n true, grantB := List.replicate n true,
    rx := rx, clock := [10148000], stop := [true], store := [.dropped], count := 0,
    askedA := 0, askedB := 0 }

/-- The state after reset with the defaults of R5 and `n` quiet boundaries ahead. -/
def start (n : Nat) (rx : List Byte) : State :=
  { State.reset with params := Config.defaults 1000000 500000 0x11 0x22 0x33, env := quiet n rx }

/-- A part of the next state, where there is one. -/
def after {α : Type} (r : Result) (f : State → α) : Option α :=
  match r with
  | .next t => some (f t)
  | _ => none

/-- Bus A held, configured and selected. -/
def selectedA (n : Nat) (rx : List Byte) : State :=
  { start n rx with heldA := true, cfgvA := true, adcCsn := false }

/-- R76, example. -/
theorem test_acq :
    after (exec (.acq .busA) { start 1 [] with cfgvA := true }) (fun t => (t.trace, t.heldA, t.cfgvA))
      = some ([.acq .busA], true, false) := rfl

/-- V56: the block holds, without an event. -/
theorem test_acq_holds :
    after (exec (.acq .busA) { start 1 [] with env := { quiet 1 [] with grantA := [false] } })
      (fun t => (t.trace, t.heldA, t.agenda)) = some ([], false, [.op (.acq .busA)]) := rfl

/-- R77, example. -/
theorem test_cfg :
    after (exec (.cfg .busA) { start 1 [] with heldA := true }) (fun t => (t.trace, t.cfgvA))
      = some ([.cfg .busA 1000000 0], true) := rfl

/-- R78. -/
theorem test_csl :
    after (exec (.csl .can) { start 1 [] with heldB := true, cfgvB := true }) (fun t => (t.trace, t.canCsn, t.adcCsn))
      = some ([.csl .can], false, true) := rfl

/-- R79. -/
theorem test_wait : after (exec (.wait 50) (start 1 [])) (fun t => (t.trace, t.waited)) = some ([.wait 50], 50) := rfl

/-- R80, example. -/
theorem test_xfer :
    after (exec (.xfer .busA 0x90) (selectedA 1 [0x03])) (fun t => (t.trace, t.rx)) = some ([.xfer .busA 0x90 0x03], [0x03]) := rfl

/-- R81, example. -/
theorem test_csh :
    after (exec (.csh .can) { start 1 [] with canCsn := false }) (fun t => (t.trace, t.canCsn)) = some ([.csh .can], true) := rfl

/-- R82, example. -/
theorem test_rel :
    after (exec (.rel .busB) { start 1 [] with heldB := true }) (fun t => (t.trace, t.heldB)) = some ([.rel .busB], false) := rfl

/-- R83: the order of a burst; the bytes are not merged or split. -/
theorem test_burst :
    after (exec (.burst .busA .adc 1 [0x90, 0x00]) (start 1 [])) (fun t => (t.trace, t.agenda))
      = some ([.acq .busA], [.op (.cfg .busA), .op (.csl .adc), .op (.wait 1), .op (.xfer .busA 0x90),
          .op (.xfer .busA 0x00), .op (.csh .adc), .op (.rel .busA)]) := rfl

/-- R85, example. -/
theorem test_mux_set :
    after (exec (.muxSet 5) { start 1 [] with muxsel := 15 }) (fun t => (t.trace, t.muxsel)) = some ([.mux 5], 5) := rfl

/-- R86, example: READ_ADC 3 sends [0xB0, 0x00]. -/
theorem test_read_adc_bytes :
    after (exec (.readAdc 3) (start 1 [])) (fun t => t.agenda.filterMap fun f => match f with | .op (.xfer _ b) => some b | _ => none)
      = some [0xB0, 0x00] := rfl

/-- V16: the answer [0x0A, 0xBC] is returned as 2748, at the end of the burst. -/
theorem test_read_adc_answer :
    after (step { start 1 [] with heldA := true, rx := [0x0A, 0xBC], agenda := [.op (.rel .busA), .act .answer] })
      (fun t => (t.ret, t.agenda)) = some (.reading 2748, []) := rfl

/-- R90: all 23 registers are marked unwritten; the first read is channel 0. -/
theorem test_sample_all_starts_fresh :
    after (exec .sampleAll { start 1 [] with x := Vector.replicate 23 (some 7) }) (fun t => (t.x.toList.all Option.isNone, t.pc))
      = some (true, 0b010100000) := rfl

/-- V49: READ_MUXED 22 begins with MUX(15). -/
theorem test_read_muxed_22 :
    after (exec .readMuxed22 (start 1 [])) (fun t => (t.trace, t.muxsel, t.pc)) = some ([.mux 15], 15, 0b010110110) := rfl

/-- V31 and V34: the identifier is tested first. -/
theorem test_send_frame_identifier :
    after (exec (.sendFrame 0xFFFF (List.replicate 9 0)) { start 0 [] with canst := .operational })
      (fun t => (t.trace, t.ret)) = some ([], .txError (.idOutOfRange 0xFFFF)) := rfl

/-- V32. -/
theorem test_send_frame_length :
    after (exec (.sendFrame 0x100 (List.replicate 9 0)) { start 0 [] with canst := .operational })
      (fun t => (t.trace, t.ret)) = some ([], .txError (.payloadTooLong 9)) := rfl

/-- V35. -/
theorem test_send_frame_refused :
    after (exec (.sendFrame 0x100 [0xAA]) { start 0 [] with canst := .configuring, ret := .ok })
      (fun t => (t.trace, t.refused, t.ret)) = some ([], true, .nothing) := rfl

/-- R98: CANST is Resetting from the start of CAN_RESET; the byte is 0xC0 (V50). -/
theorem test_can_reset :
    after (exec .canReset (start 1 [])) (fun t => (t.canst, t.trace, t.agenda.any (· = .op (.xfer .busB 0xC0))))
      = some (.resetting, [.acq .busB], true) := rfl

/-- R97: write W2 is 02 28 t3. -/
theorem test_cfg_write_2 :
    after (exec .cfgWrite2 (start 1 [])) (fun t => (t.pc, t.agenda.filterMap fun f => match f with | .op (.xfer _ b) => some b | _ => none))
      = some (0b001000001, [0x02, 0x28, 0x33]) := rfl

/-- R109, R112: one clock read to both registers. -/
theorem test_clock_reads :
    after (exec .schedInit (start 1 [])) (fun t => (t.lastStore, t.lastTx, t.trace))
      = some (some 10148000, some 10148000, [.clk 10148000]) ∧
    after (exec .readClock (start 1 [])) (fun t => (t.now, t.ts, t.pc))
      = some (some 10148000, some 10148000, 0b011100000) := ⟨rfl, rfl⟩

/-- R111, `stop` true. -/
theorem test_stop_check :
    after (exec .stopCheck (start 1 [])) (fun t => (t.trace, t.pc)) = some ([.stopq true], 0b101000000) := rfl

/-- A frame of 4095s, NOW and LAST_STORE, LAST_TX as given. -/
def clocked (now last : Nat) : State :=
  { start 184 (List.replicate 88 0) with
      x := Vector.replicate 23 (some 4095), ts := some now, now := some now, lastStore := some last, lastTx := some last,
      canst := .operational }

/-- V45 and V46: a difference of exactly 1000000 stores, and LAST_STORE is NOW though the record was dropped. -/
theorem test_store_fires_at_the_period :
    after (exec .storeIfDue (clocked 11000000 10000000)) (fun t => (t.trace, t.lastStore))
      = some ([.store 11000000 (List.replicate 23 4095) .dropped], some 11000000) := rfl

/-- V45: 999999 does not. -/
theorem test_store_below_the_period :
    after (exec .storeIfDue (clocked 10999999 10000000)) (fun t => (t.trace, t.lastStore, t.pc))
      = some ([], some 10000000, 0b100000000) := rfl

/-- V45: 500000 sends; the frame is packed (V39) and chunk 0 begins. -/
theorem test_tx_fires_at_the_period :
    after (exec .txIfDue (clocked 10500000 10000000)) (fun t => (t.trace, t.pay[0], t.pay[1], t.pay[45], t.pc))
      = some ([.acq .busB], some 0x0F, some 0xFF, some 0xFF, 0b100000000) := rfl

/-- V45: 499999 does not. -/
theorem test_tx_below_the_period :
    after (exec .txIfDue (clocked 10499999 10000000)) (fun t => (t.trace, t.pc)) = some ([], 0b100100000) := rfl

/-- R115. -/
theorem test_loop_sleep :
    after (exec .loopSleep (start 1 [])) (fun t => (t.trace, t.pc)) = some ([.wait 100000], 0b010000000) := rfl

/-- R116, R18: the stop path and the fault path. -/
theorem test_shutdown :
    after (exec .shutdown (start 1 [])) (fun t => (t.trace, t.pc)) = some ([.unmount], 0b101100000) ∧
    after (exec .shutdown { start 1 [] with fault := some (.signalled 3) }) (fun t => t.pc) = some 0b110000000 := ⟨rfl, rfl⟩

/-- R18: RUN from P_IDLE; P_IDLE when RUN is started. -/
theorem test_run : after (exec .run (start 0 [])) (fun t => t.pc) = some 0b000100000 ∧
    after (step (start 0 [])) (fun t => t.pc) = some 0b000100000 := ⟨rfl, rfl⟩

/-- R123, example: `x[0] = 100`, `x[1] = 200` give `PAY[0..3] = 00 64 00 C8`. -/
theorem test_pack :
    after (exec .pack { start 0 [] with x := Vector.ofFn fun i : Fin 23 => some (BitVec.ofNat 12 (100 * (i.val + 1))) })
      (fun t => t.pay.toList.take 4) = some [some 0x00, some 0x64, some 0x00, some 0xC8] := rfl

/-- R15: an unwritten reading is a fault of the model. -/
theorem test_pack_unwritten : exec .pack (start 0 []) = .fault .unwritten := rfl

/-- V40a, chunk 5, over the staging buffer of bytes 0 to 45. -/
theorem test_split_5 :
    after (exec (.split 5) { start 0 [] with pay := Vector.ofFn fun j : Fin 46 => some (BitVec.ofNat 8 j.val), payLive := true })
      (fun t => t.ret)
      = some (.bytes [40, 41, 42, 43, 44, 45]) := rfl

/-- R26: with the end of SEND_READINGS PAY holds no value, and a SPLIT reads unwritten bytes (U11). -/
theorem test_pay_ends_with_send_readings :
    let s := { clocked 0 0 with pay := packed (clocked 0 0).x, payLive := true,
                                agenda := [.op (.wait 5000), .act (.setPc (nextTx 5)), .act .dropPay] }
    (chunk s.payload 5).isSome = true ∧
    after (step s) (fun t => (t.trace, chunk t.payload 5, t.pay[0])) = some ([.wait 5000], none, some 0x0F) := ⟨rfl, rfl⟩

/-- R65, R57. -/
theorem test_data_words :
    after (exec (.rd16Word 0xABC) (start 0 [])) (fun t => t.ret) = some (.bytes [0x0A, 0xBC]) ∧
    after (exec (.adcAnswer 0xF 4095) (start 0 [])) (fun t => t.ret) = some (.reading 4095) := ⟨rfl, rfl⟩

/-- V54: a condition after the second exchange of READ_DIRECT 3 abandons the burst; x[3] is not written. -/
theorem test_loop_fault :
    after (step { selectedA 0 [] with
        pc := 0b010100011, rx := [1, 2], agenda := [.op (.csh .adc), .op (.rel .busA), .act .answer, .act (.writeX 3)],
        env := { quiet 0 [] with fault := [some 9] } })
      (fun t => (t.fault, t.pc, t.agenda, t.trace, t.x[3]))
      = some (some (.signalled 9), 0b101000000, [.log (.signalled 9)], [], none) := rfl

/-- R139: the log comes first, the unmount after it. -/
theorem test_fault_path_logs :
    after (step { start 1 [] with pc := 0b101000000, fault := some (.signalled 9), agenda := [.log (.signalled 9)] })
      (fun t => (t.trace, t.pc, t.agenda)) = some ([.log (.signalled 9)], 0b101000000, []) := rfl

/-- V55: a condition at the UNMOUNT of the fault path; there is no UNMOUNT. -/
theorem test_second_condition :
    after (step { start 0 [] with pc := 0b101000000, fault := some (.signalled 9), env := { quiet 0 [] with fault := [some 4] } })
      (fun t => (t.trace, t.pc, t.fault)) = some ([], 0b110000000, some (.signalled 9)) := rfl

/-- R153: from a fault, with events in the trace. -/
theorem test_reset_port :
    let s := State.resetPort { start 0 [] with fault := some (.signalled 1), trace := [.unmount], pc := 0b110000000, heldA := true }
    (s.fault, s.trace, s.pc, s.heldA) = (none, [], 0, false) := rfl

/-- R154: what has been written to the CAN controller is not reset with the block. -/
theorem test_reset_port_keeps_the_peripherals :
    let s := State.resetPort { start 0 [] with canRegs := [(0x0F, 0x00)], txb0 := [(0, 0x20)] }
    (s.canRegs, s.txb0) = ([(0x0F, 0x00)], [(0, 0x20)]) := rfl

/-! ### Witnesses: for each obligation with hypotheses, a state and operands that meet them together -/

theorem witness_HeaderBytesCarryIdentifierAndLength : (0 ≤ 8) ∧ (8 ≤ 8) := by decide

/-- Two first bytes that differ in the ignored bits alone. -/
theorem witness_ReadingExtractionFollowsTheFormula : (0xA5 : Byte) &&& 0x0F = 0x05 &&& 0x0F := rfl

theorem witness_DecodeOfEncode :
    (Instr.canLoadTx0Cmd 0x100 [1, 2]).wellFormed = true ∧
    encode (.canLoadTx0Cmd 0x100 [1, 2]) = some (.busB, [0x40, 0x20, 0x00, 0x00, 0x00, 0x02, 1, 2]) := ⟨rfl, rfl⟩

theorem witness_EncodeOfDecode : decode .busB [0x02, 0x0F, 0x80] = .ok .canWriteCmdW1 := rfl

theorem witness_StepRunsTheDecodedOperation :
    ((start 0 []).agenda = [] ∧ decodePc (start 0 []).pc = .ok .pIdle) ∧
    ({ start 0 [] with agenda := [.op (.wait 1)] } : State).agenda = [.op (.wait 1)] ∧
    (0 < 22 ∧ (stepRows .sample)[22]? = some .readMuxed22) ∧ legalPc 0x1A0 = false ∧
    (({ start 0 [] with pc := 0x1A0 } : State).agenda = [] ∧ decodePc 0x1A0 = .error (.unusedPhase 13)) :=
  ⟨⟨rfl, rfl⟩, rfl, ⟨by decide, rfl⟩, rfl, ⟨rfl, rfl⟩⟩

theorem witness_StepRunsThePlacedWord :
    decodeTableWord 16 0x0C0 = some .readClock ∧ decodeTableWord 24 0x020F80 = some .canWriteCmdW1 := ⟨rfl, rfl⟩

theorem witness_AcquireTakesOrHolds :
    ((start 1 []).Calm ∧ (start 1 []).held .busA = false ∧ (start 1 []).passed.grantIn .busA = true) ∧
    (let s := { start 1 [] with env := { quiet 1 [] with grantB := [false] } }
     State.Calm s ∧ s.held .busB = false ∧ s.passed.grantIn .busB = false) :=
  ⟨⟨.inl rfl, rfl, rfl⟩, ⟨.inl rfl, rfl, rfl⟩⟩

theorem witness_HeldBusIsConfiguredAndReleased :
    (let s := { start 1 [] with heldB := true, pc := 0x20 }
     State.Calm s ∧ s.held .busB = true ∧ s.csn Bus.busB.device = true) := ⟨.inr rfl, rfl, rfl⟩

theorem witness_ChipSelectsMove :
    (selectedA 1 []).Calm ∧ (selectedA 1 []).held Device.adc.bus = true ∧ (selectedA 1 []).cfgv Device.adc.bus = true :=
  ⟨.inl rfl, rfl, rfl⟩

theorem witness_ExchangeDrawsAByte :
    (selectedA 1 [3]).Calm ∧ (selectedA 1 [3]).held .busA = true ∧ (selectedA 1 [3]).cfgv .busA = true ∧
    (selectedA 1 [3]).csn Bus.busA.device = false := ⟨.inl rfl, rfl, rfl, rfl⟩

theorem witness_WaitIsKeptForTheClock : (start 1 []).Calm ∧ 0 < 1 := ⟨.inl rfl, by decide⟩

theorem witness_SelectLinesTakeThePattern : ({ start 1 [] with pc := 0xA7 } : State).Calm := .inr rfl

theorem witness_UnmetRequirementsStop :
    (start 0 []).held .busA = false ∧ ¬((start 0 []).held Device.adc.bus = true ∧ (start 0 []).cfgv Device.adc.bus = true) ∧
    ¬((start 0 []).held .busA = true ∧ (start 0 []).cfgv .busA = true ∧ (start 0 []).csn Bus.busA.device = false) ∧
    ¬((start 0 []).held .busA = true ∧ (start 0 []).csn Bus.busA.device = true) ∧ Device.adc.bus ≠ .busB ∧
    8 < (List.replicate 9 (0 : Byte)).length ∧ (start 0 []).frame = none ∧ (start 0 []).now = none := by decide

/-- UnmetRequirementsStop, the reads of unwritten registers: PAY in an Operational driver, LAST_STORE and LAST_TX, and both
transfers exactly due. -/
theorem witness_UnmetRequirementsStop_unwritten :
    (chunk (clocked 0 0).payload 5 = none ∧ chunkRows[5]? = some .sendChunk5 ∧ (clocked 0 0).canst = .operational) ∧
    (start 0 []).lastStore = none ∧ (start 0 []).lastTx = none ∧
    (let s := { clocked 1000000 0 with ts := none }
     s.now = some 1000000 ∧ s.lastStore = some 0 ∧ 1000000 ≤ 1000000 - 0 ∧ s.ts = none) ∧
    (let s := { clocked 500000 0 with x := Vector.replicate 23 none }
     s.now = some 500000 ∧ s.lastTx = some 0 ∧ 500000 ≤ 500000 - 0 ∧ s.frame = none) :=
  ⟨⟨rfl, rfl, rfl⟩, rfl, rfl, ⟨rfl, rfl, by decide, rfl⟩, ⟨rfl, rfl, by decide, rfl⟩⟩

theorem witness_BurstRuns :
    Device.adc.bus = .busA ∧ [(0x90 : Byte), 0x00] ≠ [] ∧ ([3, 0xE8] : List Byte).length = [(0x90 : Byte), 0x00].length ∧
    (start 8 [3, 0xE8]).held .busA = false ∧ (start 8 [3, 0xE8]).CalmFor 8 ∧ (start 8 [3, 0xE8]).Grants 1 .busA ∧
    (start 8 [3, 0xE8]).Answers [3, 0xE8] :=
  ⟨rfl, by decide, rfl, rfl, .inr List.prefix_rfl, ⟨_, rfl⟩, List.prefix_rfl⟩

/-- AdcCommandWordsSend, ReadAdcReturnsTheReading. -/
theorem witness_AdcCommandRuns :
    (start 8 [3, 0xE8]).heldA = false ∧ (start 8 [3, 0xE8]).CalmFor 8 ∧ (start 8 [3, 0xE8]).Grants 1 .busA ∧
    (start 8 [3, 0xE8]).Answers [3, 0xE8] ∧ [(3 : Byte), 0xE8].length = 2 :=
  ⟨rfl, .inr List.prefix_rfl, ⟨_, rfl⟩, List.prefix_rfl, rfl⟩

/-- DirectReadsRun, MuxedReadsRun. -/
theorem witness_ReadRuns :
    (start 10 [8, 0xFC]).heldA = false ∧ (start 10 [8, 0xFC]).NoFault 10 ∧ (start 10 [8, 0xFC]).Grants 1 .busA ∧
    (start 10 [8, 0xFC]).Answers [8, 0xFC] ∧ [(8 : Byte), 0xFC].length = 2 :=
  ⟨rfl, List.prefix_rfl, ⟨_, rfl⟩, List.prefix_rfl, rfl⟩

/-- The answers of `n` exchanges, all 5. -/
def fives (n : Nat) : List Byte := List.replicate n 5

theorem witness_SampleAllWritesTheFrame :
    (start 216 (fives 46)).heldA = false ∧ (start 216 (fives 46)).NoFault 216 ∧ (start 216 (fives 46)).Grants 23 .busA ∧
    (start 216 (fives 46)).Answers (fives 46) ∧ (fives 46).length = 46 :=
  ⟨rfl, List.prefix_rfl, ⟨_, rfl⟩, List.prefix_rfl, rfl⟩

/-- CanCommandWordsSend: a command of three bytes. -/
theorem witness_CanCommandRuns :
    (start 8 (fives 3)).heldB = false ∧ (start 8 (fives 3)).CalmFor 8 ∧ (start 8 (fives 3)).Grants 1 .busB ∧
    (start 8 (fives 3)).Answers (fives 3) ∧ (fives 3).length = [(2 : Byte), 0x28, 0x05].length :=
  ⟨rfl, .inr List.prefix_rfl, ⟨_, rfl⟩, List.prefix_rfl, rfl⟩

theorem witness_LoadWordSends :
    (fives 8).length ≤ 8 ∧ (fives 14).length = 6 + (fives 8).length ∧ (start 24 (fives 14)).heldB = false ∧
    (start 24 (fives 14)).CalmFor 24 ∧ (start 24 (fives 14)).Grants 2 .busB ∧ (start 24 (fives 14)).Answers (fives 14) :=
  ⟨by decide, rfl, rfl, .inr List.prefix_rfl, ⟨_, rfl⟩, List.prefix_rfl⟩

theorem witness_CanResetRuns :
    (start 7 (fives 1)).heldB = false ∧ (start 7 (fives 1)).CalmFor 7 ∧ (start 7 (fives 1)).Grants 1 .busB ∧
    (start 7 (fives 1)).Answers (fives 1) ∧ (fives 1).length = 1 :=
  ⟨rfl, .inr List.prefix_rfl, ⟨_, rfl⟩, List.prefix_rfl, rfl⟩

theorem witness_ConfigurationWriteRuns :
    (start 8 (fives 3)).heldB = false ∧ (start 8 (fives 3)).NoFault 8 ∧ (start 8 (fives 3)).Grants 1 .busB ∧
    (start 8 (fives 3)).Answers (fives 3) ∧ (fives 3).length = 3 :=
  ⟨rfl, List.prefix_rfl, ⟨_, rfl⟩, List.prefix_rfl, rfl⟩

theorem witness_CanConfigureRuns :
    (start 40 (fives 15)).heldB = false ∧ (start 40 (fives 15)).NoFault 40 ∧ (start 40 (fives 15)).Grants 5 .busB ∧
    (start 40 (fives 15)).Answers (fives 15) ∧ (fives 15).length = 15 :=
  ⟨rfl, List.prefix_rfl, ⟨_, rfl⟩, List.prefix_rfl, rfl⟩

theorem witness_CanInitRuns :
    (start 47 (fives 16)).heldB = false ∧ (start 47 (fives 16)).NoFault 47 ∧ (start 47 (fives 16)).Grants 6 .busB ∧
    (start 47 (fives 16)).Answers (fives 16) ∧ (fives 16).length = 16 :=
  ⟨rfl, List.prefix_rfl, ⟨_, rfl⟩, List.prefix_rfl, rfl⟩

/-- ControllerWritesTouchOnlyTheirBytes: a register write, and a load of 8 bytes. -/
theorem witness_ControllerWritesTouchOnlyTheirBytes :
    ((start 8 (fives 3)).agenda = [] ∧ (start 8 (fives 3)).heldB = false ∧ (start 8 (fives 3)).CalmFor 8 ∧
      (start 8 (fives 3)).Grants 1 .busB ∧ (start 8 (fives 3)).Answers (fives 3) ∧ (fives 3).length = 3) ∧
    ((start 24 (fives 14)).agenda = [] ∧ (fives 8).length ≤ 8 ∧ (fives 14).length = 6 + (fives 8).length ∧
      (start 24 (fives 14)).heldB = false ∧ (start 24 (fives 14)).CalmFor 24 ∧ (start 24 (fives 14)).Grants 2 .busB ∧
      (start 24 (fives 14)).Answers (fives 14)) :=
  ⟨⟨rfl, rfl, .inr List.prefix_rfl, ⟨_, rfl⟩, List.prefix_rfl, rfl⟩,
   ⟨rfl, by decide, rfl, rfl, .inr List.prefix_rfl, ⟨_, rfl⟩, List.prefix_rfl⟩⟩

/-- At the boundary values: identifier 0x7FF, 8 bytes. -/
theorem witness_SendFrameSends :
    (clocked 0 0).canst = .operational ∧ (0x7FF : BitVec 16).toNat ≤ 0x7FF ∧ (fives 8).length ≤ 8 ∧
    (List.replicate 15 (0 : Byte)).length = 7 + (fives 8).length ∧ (clocked 0 0).heldB = false ∧ (clocked 0 0).CalmFor 30 ∧
    (clocked 0 0).Grants 3 .busB ∧ (clocked 0 0).Answers (List.replicate 15 0) :=
  ⟨rfl, by decide, by decide, rfl, rfl, .inr ⟨_, rfl⟩, ⟨_, rfl⟩, ⟨_, rfl⟩⟩

/-- Each of the three tests at its boundary: not Operational, with a frame to send and a transmission exactly due; 0x800; 0x7FF
with 9 bytes. -/
theorem witness_SendFrameRejects :
    (let s := { clocked 500000 0 with canst := .configuring }
     s.canst ≠ .operational ∧ chunkRows[5]? = some .sendChunk5 ∧ s.frame = some (List.replicate 23 4095) ∧
      s.now = some 500000 ∧ s.lastTx = some 0 ∧ 500000 ≤ 500000 - 0) ∧
    ((clocked 0 0).canst = .operational ∧ 0x7FF < (0x800 : BitVec 16).toNat) ∧
    ((clocked 0 0).canst = .operational ∧ (0x7FF : BitVec 16).toNat ≤ 0x7FF ∧ 8 < (fives 9).length) := by decide

/-- ClockReadsLatchOneValue: a clock that has been read, with waits since. -/
theorem witness_ClockReadsLatchOneValue :
    (let s := { start 1 [] with lastClk := some 5, waited := 7 }
     State.Calm s ∧ s.lastClk = some 5) := ⟨.inl rfl, rfl⟩

/-- StopCheckSamplesStop, LoopSleepWaits, ShutdownUnmounts: in their phases. -/
theorem witness_phases_calm :
    ({ start 1 [] with pc := 0x80 } : State).Calm ∧ ({ start 1 [] with pc := 0x120 } : State).Calm ∧
    ({ start 1 [] with pc := 0x140 } : State).Calm := ⟨.inr rfl, .inr rfl, .inr rfl⟩

/-- Both sides of the period. -/
theorem witness_StoreIfDueStores :
    ((clocked 999999 0).now = some 999999 ∧ (clocked 999999 0).lastStore = some 0 ∧ (clocked 999999 0).ts = some 999999 ∧
      (clocked 999999 0).frame = some (List.replicate 23 4095) ∧ 999999 - 0 < 1000000) ∧
    ((clocked 1000000 0).now = some 1000000 ∧ (clocked 1000000 0).frame = some (List.replicate 23 4095) ∧
      1000000 ≤ 1000000 - 0 ∧ (clocked 1000000 0).Calm) :=
  ⟨⟨rfl, rfl, rfl, rfl, by decide⟩, ⟨rfl, rfl, by decide, .inl rfl⟩⟩

/-- Both sides of the period. -/
theorem witness_TxIfDueSends :
    ((clocked 499999 0).now = some 499999 ∧ (clocked 499999 0).lastTx = some 0 ∧ 499999 - 0 < 500000) ∧
    ((clocked 500000 0).now = some 500000 ∧ (clocked 500000 0).lastTx = some 0 ∧ 500000 ≤ 500000 - 0 ∧
      (clocked 500000 0).frame = some (List.replicate 23 4095) ∧ (clocked 500000 0).canst = .operational ∧
      (clocked 500000 0).heldB = false ∧ (clocked 500000 0).NoFault 184 ∧ (clocked 500000 0).Grants 18 .busB ∧
      (clocked 500000 0).Answers (List.replicate 88 0) ∧ (List.replicate 88 (0 : Byte)).length = 88) :=
  ⟨⟨rfl, rfl, by decide⟩, ⟨rfl, rfl, by decide, rfl, rfl, rfl, List.prefix_rfl, ⟨_, rfl⟩, List.prefix_rfl, rfl⟩⟩

theorem witness_RunIsTheOnlyEntry :
    (start 0 []).pc = pcWord .idle 0 ∧ (start 0 []).startIn = true ∧
    ({ start 0 [] with env := { quiet 0 [] with start := [false] } } : State).startIn = false := ⟨rfl, rfl, rfl⟩

theorem witness_FinalStatesHaveNoStep :
    (({ start 0 [] with pc := 0x160 } : State).agenda = [] ∧ (0x160 : BitVec 9) = pcWord .stopped 0) ∧
    (({ start 0 [] with pc := 0x180 } : State).agenda = [] ∧ (0x180 : BitVec 9) = pcWord .failed 0) :=
  ⟨⟨rfl, rfl⟩, ⟨rfl, rfl⟩⟩

theorem witness_PackWritesBigEndian : (clocked 0 0).frame = some (List.replicate 23 4095) := rfl

/-- A full staging buffer in an Operational driver. -/
def packedState : State := { clocked 0 0 with pay := Vector.replicate 46 (some 1), payLive := true }

theorem witness_SplitReturnsTheChunk : allWritten packedState.payload.toList = some (List.replicate 46 1) := rfl

/-- ChunkRowsRun: chunk 5, 6 bytes. -/
theorem witness_ChunkRuns :
    packedState.canst = .operational ∧ allWritten packedState.payload.toList = some (List.replicate 46 1) ∧
    packedState.heldB = false ∧ packedState.NoFault 31 ∧ packedState.Grants 3 .busB ∧
    packedState.Answers (List.replicate 13 0) ∧
    (List.replicate 13 (0 : Byte)).length = 7 + (chunkOf (List.replicate 46 1) 5).length :=
  ⟨rfl, rfl, rfl, ⟨_, rfl⟩, ⟨_, rfl⟩, ⟨_, rfl⟩, rfl⟩

theorem witness_SendReadingsSendsSixFrames :
    (clocked 0 0).frame = some (List.replicate 23 4095) ∧ (clocked 0 0).canst = .operational ∧ (clocked 0 0).heldB = false ∧
    (clocked 0 0).NoFault 184 ∧ (clocked 0 0).Grants 18 .busB ∧ (clocked 0 0).Answers (List.replicate 88 0) ∧
    (List.replicate 88 (0 : Byte)).length = 88 :=
  ⟨rfl, rfl, rfl, List.prefix_rfl, ⟨_, rfl⟩, List.prefix_rfl, rfl⟩

theorem witness_ReceiverRecoversTheReadings : (List.replicate 23 (4095 : Reading)).length = 23 := rfl

theorem witness_TransmittedBurstsDecode :
    let p := (start 0 []).params
    (List.replicate 23 (4095 : Reading)).length = 23 ∧ (List.replicate 88 (0 : Byte)).length = 88 ∧
    p.opLoadTx0 = Config.defOpLoadTx0 ∧ p.opRts0 = Config.defOpRts0 ∧ p.txLoadSplit = false := ⟨rfl, rfl, rfl, rfl, rfl⟩

/-- A condition with cause 9 at the next boundary and no other, in P_SAMPLE, inside an ADC burst. -/
def struck : State :=
  { selectedA 0 [] with pc := 0xA3, agenda := [.op (.csh .adc), .op (.rel .busA)],
                        env := { quiet 0 [] with fault := [some 9, none, none] } }

/-- Both ends of R138's range of phases, the middle of a burst, and a boundary that comes after what the rule has written. -/
theorem witness_LoopFaultRunsTheFaultPath :
    (atFirstBoundary struck (.csh .adc) = some struck ∧ struck.window = .running ∧
      [some 9, none, none] <+: struck.env.fault) ∧
    (∃ u, atFirstBoundary struck .sampleAll = some u ∧ u.x[3] = none ∧ u.window = .running) ∧
    (∃ u, atFirstBoundary (clocked 500000 0) .txIfDue = some u ∧ u.pay[1] = some 0xFF ∧ u.window = .running) ∧
    atFirstBoundary (clocked 1000000 0) .storeIfDue = some (clocked 1000000 0) ∧
    ({ struck with pc := 0x20 } : State).window = .running ∧ ({ struck with pc := 0x120 } : State).window = .running :=
  ⟨⟨rfl, rfl, List.prefix_rfl⟩, ⟨_, rfl, rfl, rfl⟩, ⟨_, rfl, rfl, rfl⟩, rfl, rfl, rfl⟩

/-- The step of `struck` is a next state. -/
theorem witness_NoEventAtASignalledBoundary :
    struck.window = .running ∧ struck.faultIn = some 9 ∧
    step struck = .next (takeLoopFault (.signalled 9) ({ struck with agenda := [.op (.rel .busA)] } : State).usedFault) :=
  ⟨rfl, rfl, rfl⟩

/-- The fault path's first state. -/
def faulted (f : List (Option Nat)) : State :=
  { start 0 [] with pc := 0x140, fault := some (.signalled 9), agenda := [.log (.signalled 9)],
                    env := { quiet 0 [] with fault := f } }

/-- During Log on the fault path, and during Unmount on the stop path. -/
theorem witness_SecondConditionEndsTheRun :
    ((faulted [some 4]).pc = pcWord .shutdown 0 ∧ (∃ d, (faulted [some 4]).agenda = [.log d]) ∧
      (faulted [some 4]).faultIn = some 4) ∧
    (let s := { faulted [some 4] with fault := none, agenda := [] }
     s.pc = pcWord .shutdown 0 ∧ s.agenda = [] ∧ State.faultIn s = some 4) :=
  ⟨⟨rfl, ⟨_, rfl⟩, rfl⟩, ⟨rfl, rfl, rfl⟩⟩

/-- AtMostOneEventPerStep, ControllerMapsStayCanonical: a step that answers a next state. -/
theorem witness_step_next :
    (after (step (start 1 [])) fun t => t.pc) = some 0x20 ∧ (start 1 []).canRegs.wf ∧ (start 1 []).txb0.wf :=
  ⟨rfl, List.Pairwise.nil, List.Pairwise.nil⟩

/-- MarksAndParametersStay: a step with FAULT and REFUSED set. -/
theorem witness_MarksAndParametersStay :
    let s := { faulted [none, none] with refused := true }
    s.fault ≠ none ∧ s.refused = true ∧ (after (step s) fun t => t.trace) = some [.log (.signalled 9)] :=
  ⟨by decide, rfl, rfl⟩

/-- ClockObeysItsLaws: a state with two clock values and a wait, which goes on. -/
theorem witness_ClockObeysItsLaws :
    let s := { start 1 [] with trace := [.clk 10, .wait 5], lastClk := some 10, waited := 5, pc := 0xC0 }
    State.ClockInv s ∧ (after (step s) fun t => t.lastClk) = some (some 10148015) := by
  refine ⟨⟨rfl, ?_⟩, rfl⟩
  rintro (_ | ⟨_, _ | ⟨_, _ | ⟨_, _⟩⟩⟩) (_ | ⟨_, _ | ⟨_, _⟩⟩) c u v h <;> simp_all

/-- StoresAreAPeriodApart, the transmissions: the last wait of one that is exactly due, and the step that ends it. -/
theorem witness_StoresAreAPeriodApart_transmissions :
    let s := { clocked 500000 0 with agenda := [.op (.wait 5000), .act (.setPc 0x120), .act .dropPay, .act .lastTx] }
    State.TxInv s ∧ (after (step s) fun t => (t.lastTx, t.pc)) = some (some 500000, 0x120) :=
  ⟨⟨rfl, fun _ => ⟨500000, 0, rfl, rfl, .inr (by decide)⟩⟩, rfl⟩

/-- StoresAreAPeriodApart: a state with a store in its trace, about to store. -/
theorem witness_StoresAreAPeriodApart :
    let s := { clocked 1000000 0 with trace := [.store 0 [] .ok], lastClk := some 1000000, pc := 0xE0 }
    State.StoreInv s ∧ (after (step s) fun t => storeTimes t.trace) = some [0, 1000000] := by
  refine ⟨⟨rfl, ?_, ?_, ?_, ?_⟩, rfl⟩ <;> simp [clocked, storeTimes]

/-- A state of a run that meets the invariant: P_CLOCK with the frame read, an event to come. -/
def running : State :=
  { clocked 5 5 with now := none, ts := none, lastClk := some 5, pc := 0xC0, muxsel := 15 }

/-- StepKeepsTheInvariant, InvariantRunsOn, InvariantGivesTheSpecsInvariants, PhaseRegisterFollowsTheTable. -/
theorem witness_invariant :
    running.Inv ∧ running.fault = none ∧ running.agenda = [] ∧ (after (step running) fun t => t.pc) = some 0xE0 := by
  refine ⟨⟨⟨.idle, rfl, by decide⟩, rfl, rfl, ?_⟩, rfl, rfl, rfl⟩
  simp [State.ClockOrdered, running, clocked]

/-- InvariantGivesTheSpecsInvariants: the invariant is met between two reads of P_SAMPLE. -/
theorem witness_invariant_between_reads :
    let s := { running with pc := 0xB6, agenda := [.op .readMuxed22] }
    State.Inv s ∧ Instr.readMuxed22 ∈ cfgRows ++ sampleRows ++ chunkRows := by
  refine ⟨⟨⟨.idle, rfl, by decide⟩, rfl, rfl, ?_⟩, by decide⟩
  simp [State.ClockOrdered, running, clocked]

/-- And one inside a burst: the invariant is met in the middle of READ_DIRECT 3. -/
theorem witness_invariant_in_a_burst :
    let s := { running with heldA := true, cfgvA := true, adcCsn := false, pc := 0xB6, rx := [1],
                            agenda := [.op (.xfer .busA 0), .op (.csh .adc), .op (.rel .busA), .act .answer,
                              .act (.writeX 22), .act (.setPc (pcWord .clock 0))] }
    State.Inv s := by
  refine ⟨⟨.selected .busA, rfl, by decide⟩, rfl, rfl, ?_⟩
  simp [State.ClockOrdered, running, clocked]

end Sys2Proof.Machine.Tests
end

/-! ## The trace grows by at most one event per step (R6, R33, R47)

`event` alone appends to the trace, and no meaning goes through it twice: what is left of an operation goes to `agenda`. So
the bound is shown once for each shared operation, and `exec` only says which of them an instruction is. -/

namespace Sys2Proof.Machine

/-- A next state, where the result is one, has the trace `tr` with at most one event after it. -/
def AtMostOneEvent (r : Result) (tr : List Event) : Prop :=
  ∀ t, r = .next t → t.trace = tr ∨ ∃ e, t.trace = tr ++ [e]

/-! ### The ways a meaning ends -/

theorem atMostOneEvent_next {t : State} {tr : List Event} (h : t.trace = tr) : AtMostOneEvent (.next t) tr := by
  rintro _ ⟨⟩
  exact .inl h

theorem atMostOneEvent_fault (f : Fault) (tr : List Event) : AtMostOneEvent (.fault f) tr :=
  fun _ h => by cases h

theorem atMostOneEvent_refused (r : Refusal) (tr : List Event) : AtMostOneEvent (.refused r) tr :=
  fun _ h => by cases h

theorem done_atMostOneEvent (s : State) : AtMostOneEvent (done s) s.trace :=
  atMostOneEvent_next (settle_trace s.agenda s)

theorem event_atMostOneEvent (s : State) (e : Event) : AtMostOneEvent (event s e) s.trace := by
  rintro _ ⟨⟩
  exact .inr ⟨e, by simp⟩

theorem refuse_atMostOneEvent (s : State) : AtMostOneEvent (refuse s) s.trace := atMostOneEvent_next rfl

/-- A condition taken at the boundary leaves no event, so the bound is that of what follows the boundary. -/
theorem atBoundary_atMostOneEvent (s : State) {k : State → Result} (hk : ∀ u, AtMostOneEvent (k u) u.trace) :
    AtMostOneEvent (atBoundary s k) s.trace := by
  intro t h
  obtain ⟨-, hpassed⟩ | ⟨c, -, -, rfl⟩ | ⟨c, -, -, rfl⟩ := atBoundary_next h
  · simpa using hk s.passed t hpassed
  · exact .inl rfl
  · exact .inl rfl

/-! ### The primitives and the burst -/

theorem opAcquire_atMostOneEvent (bus : Bus) (s : State) : AtMostOneEvent (opAcquire bus s) s.trace := by
  refine atBoundary_atMostOneEvent s fun u => ?_
  split
  · simpa using event_atMostOneEvent { ((u.usedGrant bus).setHeld true bus).setCfgv false bus with rx := [] } _
  · exact atMostOneEvent_next (by simp)

theorem opConfigure_atMostOneEvent (bus : Bus) (s : State) : AtMostOneEvent (opConfigure bus s) s.trace := by
  unfold opConfigure
  split
  · exact atBoundary_atMostOneEvent s fun u => by simpa using event_atMostOneEvent (u.setCfgv true bus) _
  · exact atMostOneEvent_fault _ _

theorem opCsLow_atMostOneEvent (d : Device) (s : State) : AtMostOneEvent (opCsLow d s) s.trace := by
  unfold opCsLow
  split
  · exact atBoundary_atMostOneEvent s fun u => by simpa using event_atMostOneEvent (u.setCsn false d) _
  · exact atMostOneEvent_fault _ _

theorem opWait_atMostOneEvent (n : Nat) (s : State) : AtMostOneEvent (opWait n s) s.trace := by
  unfold opWait
  split
  · exact atBoundary_atMostOneEvent s fun u => event_atMostOneEvent { u with waited := u.waited + n } _
  · exact atMostOneEvent_fault _ _

theorem opXfer_atMostOneEvent (bus : Bus) (tx : Byte) (s : State) : AtMostOneEvent (opXfer bus tx s) s.trace := by
  unfold opXfer
  split
  · exact atBoundary_atMostOneEvent s fun u => event_atMostOneEvent { u.usedRx with rx := u.rx ++ [u.rxIn] } _
  · exact atMostOneEvent_fault _ _

theorem opCsHigh_atMostOneEvent (d : Device) (s : State) : AtMostOneEvent (opCsHigh d s) s.trace :=
  atBoundary_atMostOneEvent s fun u => by simpa using event_atMostOneEvent (u.setCsn true d) _

theorem opRelease_atMostOneEvent (bus : Bus) (s : State) : AtMostOneEvent (opRelease bus s) s.trace := by
  unfold opRelease
  split
  · exact atBoundary_atMostOneEvent s fun u => by simpa using event_atMostOneEvent (u.setHeld false bus) _
  · exact atMostOneEvent_fault _ _

theorem opSetMux_atMostOneEvent (sel : BitVec 4) (s : State) : AtMostOneEvent (opSetMux sel s) s.trace :=
  atBoundary_atMostOneEvent s fun u => event_atMostOneEvent { u with muxsel := sel } _

theorem opBurst_atMostOneEvent (bus : Bus) (d : Device) (setup : Nat) (tx : List Byte) (s : State) :
    AtMostOneEvent (opBurst bus d setup tx s) s.trace :=
  opAcquire_atMostOneEvent bus (s.push _)

theorem execBurst_atMostOneEvent (bus : Bus) (d : Device) (setup : Nat) (tx : List Byte) (s : State) :
    AtMostOneEvent (execBurst bus d setup tx s) s.trace := by
  unfold execBurst
  split
  · exact opBurst_atMostOneEvent bus d setup tx s
  · exact atMostOneEvent_fault _ _

/-! ### The CAN Link Driver -/

theorem opCanBurst_atMostOneEvent (bytes : List Byte) (after : List Frame) (s : State) :
    AtMostOneEvent (opCanBurst bytes after s) s.trace :=
  opBurst_atMostOneEvent .busB .can 0 bytes (s.push after)

theorem opCanWrite_atMostOneEvent (a v : Byte) (after : List Frame) (s : State) :
    AtMostOneEvent (opCanWrite a v after s) s.trace :=
  opCanBurst_atMostOneEvent _ _ s

theorem opLoadTx0_atMostOneEvent (id : BitVec 11) (data : List Byte) (after : List Frame) (s : State) :
    AtMostOneEvent (opLoadTx0 id data after s) s.trace := by
  unfold opLoadTx0
  split
  · exact opCanBurst_atMostOneEvent _ _ s
  · exact opCanBurst_atMostOneEvent _ _ s

theorem execCanLoadTx0Cmd_atMostOneEvent (id : BitVec 11) (data : List Byte) (s : State) :
    AtMostOneEvent (execCanLoadTx0Cmd id data s) s.trace := by
  unfold execCanLoadTx0Cmd
  split
  · exact opLoadTx0_atMostOneEvent id data [] s
  · exact atMostOneEvent_fault _ _

theorem opSendFrame_atMostOneEvent (id : BitVec 16) (data : List Byte) (after : List Frame)
    {onError : TxError → State → Result} (herr : ∀ e u, AtMostOneEvent (onError e u) u.trace) (s : State) :
    AtMostOneEvent (opSendFrame id data after onError s) s.trace := by
  unfold opSendFrame
  split
  · exact refuse_atMostOneEvent s
  · split
    · exact herr _ s
    · split
      · exact herr _ s
      · exact opLoadTx0_atMostOneEvent _ _ _ s

theorem opCanReset_atMostOneEvent (s : State) : AtMostOneEvent (opCanReset s) s.trace :=
  opCanBurst_atMostOneEvent _ _ { s with canst := .resetting }

theorem opCfgWrite_atMostOneEvent (k : Fin 5) (s : State) : AtMostOneEvent (opCfgWrite k s) s.trace :=
  opCanWrite_atMostOneEvent _ _ _ (s.setPc .canCfg k.val)

/-! ### The Analog Sampler -/

theorem opAdcBurst_atMostOneEvent (bytes : List Byte) (after : List Frame) (s : State) :
    AtMostOneEvent (opAdcBurst bytes after s) s.trace :=
  opBurst_atMostOneEvent .busA .adc _ bytes (s.push after)

theorem opReadAdc_atMostOneEvent (a : BitVec 3) (after : List Frame) (s : State) :
    AtMostOneEvent (opReadAdc a after s) s.trace :=
  opAdcBurst_atMostOneEvent _ _ s

theorem opReadDirect_atMostOneEvent (i : Fin 7) (s : State) : AtMostOneEvent (opReadDirect i s) s.trace :=
  opReadAdc_atMostOneEvent _ _ (s.setPc .sample i.val)

theorem opReadMuxed_atMostOneEvent (j : Fin 16) (s : State) : AtMostOneEvent (opReadMuxed j s) s.trace :=
  opSetMux_atMostOneEvent _ ((s.setPc .sample (j.val + 7)).push _)

/-! ### Frame splitting -/

theorem execPack_atMostOneEvent (s : State) : AtMostOneEvent (execPack s) s.trace := by
  unfold execPack
  split
  · exact atMostOneEvent_fault _ _
  · exact done_atMostOneEvent { s with pay := packed s.x, payLive := true }

theorem execSplit_atMostOneEvent (k : Fin 6) (s : State) : AtMostOneEvent (execSplit k s) s.trace := by
  unfold execSplit
  split
  · exact atMostOneEvent_fault _ _
  · exact done_atMostOneEvent { s with ret := .bytes _ }

theorem opChunk_atMostOneEvent (k : Fin 6) (s : State) : AtMostOneEvent (opChunk k s) s.trace := by
  unfold opChunk
  split
  · exact refuse_atMostOneEvent (s.setPc .tx k.val)
  · split
    · exact atMostOneEvent_fault _ _
    · exact opSendFrame_atMostOneEvent _ _ _ (fun e u => atMostOneEvent_next (t := takeLoopFault (.txError e) u) rfl)
        (s.setPc .tx k.val)

theorem opSendReadings_atMostOneEvent (after : List Frame) (s : State) :
    AtMostOneEvent (opSendReadings after s) s.trace := by
  unfold opSendReadings
  split
  · exact atMostOneEvent_fault _ _
  · have h := opChunk_atMostOneEvent 0 ({ s with pay := packed s.x, payLive := true }.push
      (chunkRows.tail.map Frame.op ++ Frame.act .dropPay :: after))
    simpa only [State.push_trace] using h

/-! ### The Cyclic Scheduler -/

theorem execRun_atMostOneEvent (s : State) : AtMostOneEvent (execRun s) s.trace := by
  unfold execRun
  split
  · exact done_atMostOneEvent (s.setPc .canReset 0)
  · exact atMostOneEvent_fault _ _

theorem execSchedInit_atMostOneEvent (s : State) : AtMostOneEvent (execSchedInit s) s.trace :=
  atBoundary_atMostOneEvent s fun u => event_atMostOneEvent { u.usedClock with
    lastStore := some u.clockIn, lastTx := some u.clockIn, pc := pcWord .stopCheck 0 } _

theorem execStopCheck_atMostOneEvent (s : State) : AtMostOneEvent (execStopCheck s) s.trace :=
  atBoundary_atMostOneEvent s fun u => event_atMostOneEvent { u.usedStop with
    pc := if u.stopIn then pcWord .shutdown 0 else pcWord .sample 0 } _

theorem execReadClock_atMostOneEvent (s : State) : AtMostOneEvent (execReadClock s) s.trace :=
  atBoundary_atMostOneEvent s fun u => event_atMostOneEvent { u.usedClock with
    now := some u.clockIn, ts := some u.clockIn, pc := pcWord .store 0 } _

theorem execStoreIfDue_atMostOneEvent (s : State) : AtMostOneEvent (execStoreIfDue s) s.trace := by
  unfold execStoreIfDue
  split
  case h_1 n l _ _ =>
    split
    · split
      · exact atBoundary_atMostOneEvent s fun u =>
          event_atMostOneEvent { u.usedStore with lastStore := some n, pc := pcWord .tx 0 } _
      · exact atMostOneEvent_fault _ _
    · exact done_atMostOneEvent (s.setPc .tx 0)
  case h_2 => exact atMostOneEvent_fault _ _

theorem execTxIfDue_atMostOneEvent (s : State) : AtMostOneEvent (execTxIfDue s) s.trace := by
  unfold execTxIfDue
  split
  · split
    · exact opSendReadings_atMostOneEvent _ s
    · exact done_atMostOneEvent (s.setPc .sleep 0)
  · exact atMostOneEvent_fault _ _

theorem execShutdown_atMostOneEvent (s : State) : AtMostOneEvent (execShutdown s) s.trace :=
  atBoundary_atMostOneEvent s fun u => event_atMostOneEvent { u with
    pc := if u.fault.isSome then pcWord .failed 0 else pcWord .stopped 0 } _

theorem opLog_atMostOneEvent (c : Cause) (s : State) : AtMostOneEvent (opLog c s) s.trace :=
  atBoundary_atMostOneEvent s fun u => event_atMostOneEvent u _

/-! ### Every instruction, and the step -/

theorem exec_atMostOneEvent (i : Instr) (s : State) : AtMostOneEvent (exec i s) s.trace := by
  cases i with
  | adcCmd | adcCmdA0 | adcCmdA1 | adcCmdA2 | adcCmdA3 | adcCmdA4 | adcCmdA5 | adcCmdA6 | adcCmdA7 =>
    exact opAdcBurst_atMostOneEvent _ _ _
  | adcAnswer | rd16Word => exact done_atMostOneEvent _
  | muxPattern sel | muxSet sel => exact opSetMux_atMostOneEvent sel s
  | canResetCmd | canRts0Cmd => exact opCanBurst_atMostOneEvent _ _ _
  | canWriteCmd | canWriteCmdW1 | canWriteCmdW2 | canWriteCmdW3 | canWriteCmdW4 | canWriteCmdW5 =>
    exact opCanWrite_atMostOneEvent _ _ _ _
  | canLoadTx0Cmd id data => exact execCanLoadTx0Cmd_atMostOneEvent id data s
  | canReset | canInit => exact opCanReset_atMostOneEvent _
  | canConfigure | cfgWrite1 | cfgWrite2 | cfgWrite3 | cfgWrite4 | cfgWrite5 => exact opCfgWrite_atMostOneEvent _ _
  | sendFrame id data =>
    exact opSendFrame_atMostOneEvent id data [] (fun e u => done_atMostOneEvent { u with ret := .txError e }) s
  | readAdc a => exact opReadAdc_atMostOneEvent a [] s
  | sampleAll | readDirect0 | readDirect1 | readDirect2 | readDirect3 | readDirect4 | readDirect5 | readDirect6 =>
    exact opReadDirect_atMostOneEvent _ _
  | readMuxed7 | readMuxed8 | readMuxed9 | readMuxed10 | readMuxed11 | readMuxed12 | readMuxed13 | readMuxed14
  | readMuxed15 | readMuxed16 | readMuxed17 | readMuxed18 | readMuxed19 | readMuxed20 | readMuxed21 | readMuxed22 =>
    exact opReadMuxed_atMostOneEvent _ s
  | pack => exact execPack_atMostOneEvent s
  | split k => exact execSplit_atMostOneEvent k s
  | sendChunk0 | sendChunk1 | sendChunk2 | sendChunk3 | sendChunk4 | sendChunk5 => exact opChunk_atMostOneEvent _ s
  | sendReadings => exact opSendReadings_atMostOneEvent [] s
  | acq bus => exact opAcquire_atMostOneEvent bus s
  | cfg bus => exact opConfigure_atMostOneEvent bus s
  | csl d => exact opCsLow_atMostOneEvent d s
  | wait n => exact opWait_atMostOneEvent n s
  | xfer bus tx => exact opXfer_atMostOneEvent bus tx s
  | csh d => exact opCsHigh_atMostOneEvent d s
  | rel bus => exact opRelease_atMostOneEvent bus s
  | burst bus d setup tx => exact execBurst_atMostOneEvent bus d setup tx s
  | pIdle => exact atMostOneEvent_next rfl
  | run => exact execRun_atMostOneEvent s
  | schedInit => exact execSchedInit_atMostOneEvent s
  | stopCheck => exact execStopCheck_atMostOneEvent s
  | readClock => exact execReadClock_atMostOneEvent s
  | storeIfDue => exact execStoreIfDue_atMostOneEvent s
  | txIfDue => exact execTxIfDue_atMostOneEvent s
  | loopSleep => exact opWait_atMostOneEvent Config.tLoopSleep (s.push _)
  | shutdown => exact execShutdown_atMostOneEvent s
  | pStopped | pFailed => exact atMostOneEvent_fault _ _

theorem step_atMostOneEvent (s : State) : AtMostOneEvent (step s) s.trace := by
  unfold step
  split
  case h_1 nbits w rest _ =>
    split
    · exact exec_atMostOneEvent _ { s with agenda := rest }
    · exact atMostOneEvent_refused _ _
  case h_2 i rest _ => exact exec_atMostOneEvent i { s with agenda := rest }
  case h_3 c rest _ => exact opLog_atMostOneEvent c { s with agenda := rest }
  case h_4 a rest _ => exact atMostOneEvent_next (by simp)
  case h_5 =>
    split
    · exact exec_atMostOneEvent _ s
    · exact atMostOneEvent_refused _ _

/-- Settles O50: the bound of each shared operation, through `exec` to `step`. -/
theorem atMostOneEventPerStep : Obligations.AtMostOneEventPerStep :=
  fun s t h => step_atMostOneEvent s t h

end Sys2Proof.Machine

/-! ## The sequencer's invariant (R34, R18)

A step of a state that meets `State.Inv` is followed over the summary `Shape`: `State.Shows` ties the two, each shared
operation is shown once to go on where the summary lets it, and the phases and the operations in progress are instances. -/

namespace Sys2Proof.Machine

/-! ### The phase register as phase and index (R17) -/

theorem phaseCode_of_phaseOfCode {c : Nat} {p : Phase} (h : phaseOfCode c = some p) : c = phaseCode p := by
  have hc : c < phases.length := (List.getElem?_eq_some_iff.mp h).1
  revert p
  change c < 13 at hc
  interval_cases c <;> rintro p ⟨⟩ <;> rfl

theorem phaseOfCode_phaseCode (p : Phase) : phaseOfCode (phaseCode p) = some p := by cases p <;> rfl

theorem phaseCode_lt (p : Phase) : phaseCode p < 16 := by cases p <;> decide

theorem pcWord_toNat (p : Phase) {k : Nat} (hk : k < 32) : (pcWord p k).toNat = phaseCode p * 32 + k := by
  have := phaseCode_lt p
  rw [pcWord, BitVec.toNat_ofNat]
  omega

theorem pcPhase_pcWord (p : Phase) {k : Nat} (hk : k < 32) : pcPhase (pcWord p k) = some p := by
  rw [pcPhase, pcWord_toNat p hk, show (phaseCode p * 32 + k) / 32 = phaseCode p by omega, phaseOfCode_phaseCode]

theorem pcIndex_pcWord (p : Phase) {k : Nat} (hk : k < 32) : pcIndex (pcWord p k) = k := by
  rw [pcIndex, pcWord_toNat p hk]
  omega

theorem eq_pcWord {w : BitVec 9} {p : Phase} (h : pcPhase w = some p) : w = pcWord p (pcIndex w) := by
  have hp := phaseCode_of_phaseOfCode h
  refine BitVec.eq_of_toNat_eq ?_
  rw [pcIndex, pcWord_toNat p (Nat.mod_lt _ (by decide))]
  omega

/-! ### The bus mode through the primitives (R76 to R82) -/

/-- The bus is held in this mode. -/
def BusMode.holds : BusMode → Bus → Bool
  | .idle, _ => false
  | .acquired b, bus | .ready b, bus | .selected b, bus => b = bus

/-- The bus that is held is configured in this mode. -/
def BusMode.configured : BusMode → Bool
  | .idle | .acquired _ => false
  | .ready _ | .selected _ => true

/-- The device of the bus is selected in this mode. -/
def BusMode.selects : BusMode → Bus → Bool
  | .selected b, bus => b = bus
  | _, _ => false

/-- The registers of one bus are as the mode says. -/
structure BusMode.ShownAt (m : BusMode) (s : State) (bus : Bus) : Prop where
  held : s.held bus = m.holds bus
  csn : s.csn bus.device = !m.selects bus
  cfgv : m.holds bus = true → s.cfgv bus = m.configured

theorem busMode_eq_some {s : State} {m : BusMode} : s.busMode = some m ↔ ∀ bus, m.ShownAt s bus := by
  have hforall : (∀ bus, m.ShownAt s bus) ↔
      (s.heldA = m.holds .busA ∧ s.adcCsn = !m.selects .busA ∧ (m.holds .busA = true → s.cfgvA = m.configured)) ∧
      (s.heldB = m.holds .busB ∧ s.canCsn = !m.selects .busB ∧ (m.holds .busB = true → s.cfgvB = m.configured)) :=
    ⟨fun h => ⟨⟨(h .busA).held, (h .busA).csn, (h .busA).cfgv⟩, (h .busB).held, (h .busB).csn, (h .busB).cfgv⟩,
     fun ⟨⟨ha, hb, hc⟩, ha', hb', hc'⟩ bus => by cases bus; exacts [⟨ha, hb, hc⟩, ⟨ha', hb', hc'⟩]⟩
  rw [hforall, State.busMode]
  generalize s.heldA = a, s.heldB = b, s.adcCsn = c, s.canCsn = d, s.cfgvA = e, s.cfgvB = f
  obtain _ | (_ | _) | (_ | _) | (_ | _) := m <;> revert a b c d e f <;> decide

theorem State.held_setHeld_ite (s : State) (v : Bool) (b₁ b₂ : Bus) :
    (s.setHeld v b₁).held b₂ = if b₁ = b₂ then v else s.held b₂ := by cases b₁ <;> cases b₂ <;> rfl

theorem State.csn_setCsn_ite (s : State) (v : Bool) (d : Device) (bus : Bus) :
    (s.setCsn v d).csn bus.device = if d.bus = bus then v else s.csn bus.device := by cases d <;> cases bus <;> rfl

section
variable {s : State} {bus : Bus} {d : Device}

theorem busMode_acquire (h : s.busMode = some .idle) :
    ((s.setHeld true bus).setCfgv false bus).busMode = some (.acquired bus) := by
  rw [busMode_eq_some] at h ⊢
  intro b
  have hb := h b
  constructor
  · simp [State.held_setHeld_ite, hb.held, BusMode.holds]
  · simp [hb.csn, BusMode.selects]
  · simp +contextual [BusMode.holds, BusMode.configured]

theorem busMode_configure (h : s.busMode = some (.acquired bus)) : (s.setCfgv true bus).busMode = some (.ready bus) := by
  rw [busMode_eq_some] at h ⊢
  intro b
  have hb := h b
  constructor
  · simp [hb.held, BusMode.holds]
  · simp [hb.csn, BusMode.selects]
  · simp +contextual [BusMode.holds, BusMode.configured]

theorem busMode_select (h : s.busMode = some (.ready d.bus)) : (s.setCsn false d).busMode = some (.selected d.bus) := by
  rw [busMode_eq_some] at h ⊢
  intro b
  have hb := h b
  constructor
  · simp [hb.held, BusMode.holds]
  · simp [State.csn_setCsn_ite, hb.csn, BusMode.selects]
  · simpa [BusMode.holds, BusMode.configured] using hb.cfgv

theorem busMode_deselect (h : s.busMode = some (.selected d.bus)) : (s.setCsn true d).busMode = some (.ready d.bus) := by
  rw [busMode_eq_some] at h ⊢
  intro b
  have hb := h b
  constructor
  · simp [hb.held, BusMode.holds]
  · simp +contextual [State.csn_setCsn_ite, hb.csn, BusMode.selects]
  · simpa [BusMode.holds, BusMode.configured] using hb.cfgv

theorem busMode_release (h : s.busMode = some (.ready bus)) : (s.setHeld false bus).busMode = some .idle := by
  rw [busMode_eq_some] at h ⊢
  intro b
  have hb := h b
  constructor
  · simp +contextual [State.held_setHeld_ite, hb.held, BusMode.holds]
  · simp [hb.csn, BusMode.selects]
  · simp [BusMode.holds]

end

/-! ### The summary -/

/-- The value returned last is a reading. -/
def Ret.isReading : Ret → Bool
  | .reading _ => true
  | _ => false

theorem shape_reading (s : State) (m : BusMode) : (s.shape m).reading = s.ret.isReading := rfl

/-- The state is free of a fault and of a refusal, its clocks are ordered, and the summary says of it what it is, where
`moved` may say anything and `started` may be false of a started state: `Act.lastTx` starts one. -/
structure State.Shows (s : State) (h : Shape) : Prop where
  noFault : s.fault = none
  notRefused : s.refused = false
  ordered : s.ClockOrdered
  mode : s.busMode = some h.mode
  pc : s.pc = h.pc
  canst : s.canst = h.canst
  x : s.x.toList.map Option.isSome = h.x
  pay : s.payload.toList.all Option.isSome = h.pay
  rx : s.rx.length = h.rx
  reading : s.ret.isReading = h.reading
  started : h.started = true → (s.lastStore.isSome && s.lastTx.isSome) = true
  clocked : (s.now.isSome && s.ts.isSome) = h.clocked
  fresh : (s.now.isNone && s.ts.isNone) = h.fresh

/-- A summary that says no more than another: not started where the other may be, moved where the other may not be. -/
structure Shape.Below (h g : Shape) : Prop where
  same : h = { g with moved := h.moved, started := h.started }
  started : h.started = true → g.started = true
  moved : g.moved = true → h.moved = true

theorem State.Shows.below {s : State} {h : Shape} (hs : s.Shows h) : h.Below (s.shape h.mode) where
  same := by
    cases h
    simp only [State.shape, Shape.mk.injEq]
    exact ⟨trivial, hs.pc.symm, hs.canst.symm, hs.x.symm, hs.pay.symm, hs.rx.symm, hs.reading.symm, trivial,
      hs.clocked.symm, hs.fresh.symm, trivial⟩
  started := hs.started
  moved h := by cases h

theorem State.shows_shape {s : State} {m : BusMode} (hf : s.fault = none) (hr : s.refused = false)
    (ho : s.ClockOrdered) (hm : s.busMode = some m) : s.Shows (s.shape m) :=
  ⟨hf, hr, ho, hm, rfl, rfl, rfl, rfl, rfl, (shape_reading s m).symm, id, rfl, rfl⟩

/-! ### What is left in progress, frame by frame -/

theorem Shape.completes_act {a : Act} {l : List Frame} {h : Shape} :
    Shape.completes (.act a :: l) h = true ↔ ∃ h', h.act a = some h' ∧ Shape.completes l h' = true := by
  rw [Shape.completes]
  cases h.act a <;> simp

theorem Shape.completes_op {i : Instr} {l : List Frame} {h : Shape} :
    Shape.completes (.op i :: l) h = true ↔
      h.okNow = true ∧ ∃ h', h.op i = some h' ∧ Shape.completes l h' = true := by
  rw [Shape.completes, Bool.and_eq_true]
  cases h.op i <;> simp

theorem Shape.Below.act {h g h' : Shape} {a : Act} (hb : h.Below g) (ha : h.act a = some h') :
    ∃ g', g.act a = some g' ∧ h'.Below g' := by
  obtain ⟨hsame, hstarted, hmoved⟩ := hb
  generalize h.moved = m, h.started = b at *
  subst hsame
  cases a with
  | setPc w =>
    simp only [Shape.act, Option.ite_none_right_eq_some, Option.some.injEq] at ha ⊢
    obtain ⟨hw, rfl⟩ := ha
    simp only [Bool.and_eq_true, Bool.not_eq_true'] at hw
    refine ⟨_, ⟨?_, rfl⟩, rfl, hstarted, id⟩
    cases hm : g.moved <;> simp_all
  | lastTx =>
    obtain rfl := Option.some.inj ha
    refine ⟨_, rfl, rfl, ?_, hmoved⟩
    simpa using fun h hc => ⟨hstarted h, hc⟩
  | answer | writeX =>
    obtain rfl := Option.some.inj ha
    refine ⟨_, rfl, ?_⟩
    dsimp only
    split <;> exact ⟨rfl, hstarted, hmoved⟩
  | setCanst | noteReg | noteTx | sent | dropPay =>
    obtain rfl := Option.some.inj ha
    exact ⟨_, rfl, rfl, hstarted, hmoved⟩

theorem Shape.Below.okNow {h g : Shape} (hb : h.Below g) : h.okNow = g.okNow := by rw [hb.same]; rfl

theorem Shape.Below.boundary {h g : Shape} (hb : h.Below g) (hh : h.boundary = true) : g.boundary = true := by
  obtain ⟨hsame, hstarted, -⟩ := hb
  generalize h.moved = m, h.started = b at *
  subst hsame
  simp only [Shape.boundary, Bool.and_eq_true] at hh ⊢
  refine ⟨hh.1, ?_⟩
  have hphase := hh.2
  split at hphase <;> simp_all

theorem Shape.op_weaken (g : Shape) (i : Instr) (m b : Bool) :
    Shape.op { g with moved := m, started := b } i = (g.op i).map fun g' => { g' with started := b } := by
  cases i with
  | acq | cfg | csl | wait | xfer | csh | rel | burst | readAdc | canRts0Cmd =>
    simp only [Shape.op]
    split <;> rfl
  | cfgWrite1 | cfgWrite2 | cfgWrite3 | cfgWrite4 | cfgWrite5 =>
    simp only [Shape.op, Shape.write]
    split <;> rfl
  | readDirect0 | readDirect1 | readDirect2 | readDirect3 | readDirect4 | readDirect5 | readDirect6 | readMuxed7
  | readMuxed8 | readMuxed9 | readMuxed10 | readMuxed11 | readMuxed12 | readMuxed13 | readMuxed14 | readMuxed15
  | readMuxed16 | readMuxed17 | readMuxed18 | readMuxed19 | readMuxed20 | readMuxed21 | readMuxed22 =>
    simp only [Shape.op, Shape.read]
    split <;> rfl
  | sendChunk0 | sendChunk1 | sendChunk2 | sendChunk3 | sendChunk4 | sendChunk5 =>
    simp only [Shape.op, Shape.send]
    split <;> rfl
  | _ => rfl

theorem Shape.op_started {h h' : Shape} {i : Instr} (hi : h.op i = some h') : h'.started = h.started := by
  have hw := Shape.op_weaken h i h.moved h.started
  rw [show ({ h with moved := h.moved, started := h.started } : Shape) = h from rfl, hi, Option.map_some,
    Option.some.injEq] at hw
  have hstarted := congrArg Shape.started hw
  exact hstarted

theorem Shape.Below.op {h g h' : Shape} {i : Instr} (hb : h.Below g) (hi : h.op i = some h') :
    ∃ g', g.op i = some g' ∧ h'.Below g' := by
  rw [hb.same, Shape.op_weaken, Option.map_eq_some_iff] at hi
  obtain ⟨g', hg, rfl⟩ := hi
  exact ⟨g', hg, rfl, fun h => Shape.op_started hg ▸ hb.started h, id⟩

/-- What goes through over a summary goes through over one that says more. -/
theorem Shape.Below.completes {l : List Frame} {h g : Shape} (hb : h.Below g) (hc : Shape.completes l h = true) :
    Shape.completes l g = true := by
  induction l generalizing h g with
  | nil => exact hb.boundary hc
  | cons f l ih =>
    cases f with
    | act a =>
      obtain ⟨h', ha, hl⟩ := Shape.completes_act.mp hc
      obtain ⟨g', hg, hb'⟩ := hb.act ha
      exact Shape.completes_act.mpr ⟨g', hg, ih hb' hl⟩
    | op i =>
      obtain ⟨hok, h', hi, hl⟩ := Shape.completes_op.mp hc
      obtain ⟨g', hg, hb'⟩ := hb.op hi
      exact Shape.completes_op.mpr ⟨hb.okNow ▸ hok, g', hg, ih hb' hl⟩
    | word | log => cases hc

/-! ### A silent action keeps the summary -/

theorem doAct_shows {s : State} {h h' : Shape} {a : Act} (hs : s.Shows h) (ha : h.act a = some h') :
    (doAct s a).Shows h' := by
  cases a with
  | answer =>
    obtain rfl := Option.some.inj ha
    simp only [doAct]
    split
    next b₀ b₁ hrx =>
      rw [if_pos (by rw [← hs.rx, hrx]; rfl)]
      exact { hs with reading := rfl }
    next hrx =>
      rw [if_neg fun h2 => ?_]
      · exact hs
      · obtain ⟨b₀, b₁, h2⟩ := List.length_eq_two.mp (hs.rx.trans h2)
        exact hrx b₀ b₁ h2
  | writeX i =>
    obtain rfl := Option.some.inj ha
    simp only [doAct]
    split
    next v hret =>
      rw [if_pos (by rw [← hs.reading, hret]; rfl)]
      exact { hs with x := by simp [Vector.toList_set, List.map_set, hs.x] }
    next hret =>
      rw [if_neg fun hr => ?_]
      · exact hs
      · rw [← hs.reading] at hr
        unfold Ret.isReading at hr
        split at hr
        next v hv => exact hret v hv
        next => cases hr
  | setPc w =>
    simp only [Shape.act, Option.ite_none_right_eq_some, Option.some.injEq] at ha
    obtain ⟨-, rfl⟩ := ha
    exact { hs with pc := rfl }
  | setCanst c =>
    obtain rfl := Option.some.inj ha
    exact { hs with canst := rfl }
  | noteReg | noteTx =>
    obtain rfl := Option.some.inj ha
    exact { hs with }
  | sent =>
    obtain rfl := Option.some.inj ha
    exact { hs with reading := rfl }
  | dropPay =>
    obtain rfl := Option.some.inj ha
    exact { hs with pay := by simp [doAct, State.payload, Vector.toList_replicate] }
  | lastTx =>
    obtain rfl := Option.some.inj ha
    obtain ⟨hstore, -, hnow, hstoreNow, -⟩ := hs.ordered
    refine { hs with ordered := ⟨hstore, hnow, hnow, hstoreNow, fun a n ha hn => ?_⟩, started := fun h => ?_ }
    · exact (Option.some.inj (ha.symm.trans hn)).le
    · have hc := hs.clocked
      have hst := hs.started
      simp_all [doAct]

/-- A silent action moves pc along R18, once, or leaves it. -/
theorem doAct_moves {s : State} {h h' : Shape} {a : Act} (hs : s.Shows h) (ha : h.act a = some h') :
    ((doAct s a).pc = s.pc ∧ h'.moved = h.moved) ∨
      (phaseEdge s.pc (doAct s a).pc = true ∧ h.moved = false ∧ h'.moved = true) := by
  cases a with
  | setPc w =>
    simp only [Shape.act, Option.ite_none_right_eq_some, Option.some.injEq, Bool.and_eq_true, Bool.not_eq_true',
      ← hs.pc] at ha
    obtain ⟨⟨hedge, hmoved⟩, rfl⟩ := ha
    exact .inr ⟨hedge, hmoved, rfl⟩
  | answer | writeX =>
    obtain rfl := Option.some.inj ha
    refine .inl ⟨?_, ?_⟩
    · simp only [doAct]
      split <;> rfl
    · split <;> rfl
  | setCanst | noteReg | noteTx | sent | dropPay | lastTx =>
    obtain rfl := Option.some.inj ha
    exact .inl ⟨rfl, rfl⟩

/-! ### Going on -/

/-- pc of `t` is where R18 lets it be after `w`. -/
structure MovesFrom (w : BitVec 9) (t : State) : Prop where
  pc : t.pc = w ∨ phaseEdge w t.pc = true ∨
    (windowOf (pcPhase w) = .running ∧ t.pc = pcWord .shutdown 0 ∧ t.fault ≠ none) ∨
    (w = pcWord .shutdown 0 ∧ t.pc = pcWord .failed 0 ∧ t.fault ≠ none)
  stopped : t.pc = pcWord .stopped 0 → t.fault = none

/-- The result is a next state, which meets the invariant and has its pc where R18 lets it be after `w`. -/
def GoesOn (w : BitVec 9) (r : Result) : Prop := ∃ t, r = .next t ∧ t.Inv ∧ MovesFrom w t

theorem State.Shows.inv {s : State} {h : Shape} (hs : s.Shows h) (hc : Shape.completes s.agenda h = true)
    (hl : settled s.agenda = true) : s.Inv := by
  rw [State.Inv, hs.noFault]
  exact ⟨⟨h.mode, hs.mode, hs.below.completes hc⟩, hl, hs.notRefused, hs.ordered⟩

/-- What is in progress may be put in place of what was: no summary reads it. -/
theorem State.Shows.withAgenda {s : State} {h : Shape} (hs : s.Shows h) (l : List Frame) :
    ({ s with agenda := l } : State).Shows h := { hs with }

theorem State.Shows.emit {s : State} {h : Shape} (hs : s.Shows h) (e : Event) : (s.emit e).Shows h := { hs with }

theorem State.Shows.passed {s : State} {h : Shape} (hs : s.Shows h) : s.passed.Shows h := by
  unfold State.passed
  split
  · exact hs
  · exact { hs with }

theorem State.Shows.movesFrom {w : BitVec 9} {s : State} {h : Shape} (hs : s.Shows h)
    (hw : s.pc = w ∨ (phaseEdge w s.pc = true ∧ h.moved = true)) : MovesFrom w s :=
  ⟨hw.imp_right fun hw => .inl hw.1, fun _ => hs.noFault⟩

/-- The state after an event goes on where what is left in progress goes through; pc may have moved before. -/
theorem settle_goesOn {w : BitVec 9} {l : List Frame} {s : State} {h : Shape} (hs : s.Shows h)
    (hc : Shape.completes l h = true) (hw : s.pc = w ∨ (phaseEdge w s.pc = true ∧ h.moved = true)) :
    GoesOn w (.next (settle l s)) := by
  induction l generalizing s h with
  | nil =>
    have hs' := hs.withAgenda []
    exact ⟨_, rfl, hs'.inv hc rfl, hs'.movesFrom hw⟩
  | cons f l ih =>
    cases f with
    | act a =>
      obtain ⟨h', ha, hl⟩ := Shape.completes_act.mp hc
      refine ih (doAct_shows hs ha) hl ?_
      obtain ⟨hp, hm⟩ | ⟨hedge, hm, hm'⟩ := doAct_moves hs ha
      · rwa [hp, hm]
      · obtain rfl | ⟨-, hmoved⟩ := hw
        · exact .inr ⟨hedge, hm'⟩
        · simp [hm] at hmoved
    | op i =>
      have hs' := hs.withAgenda (.op i :: l)
      exact ⟨_, rfl, hs'.inv hc rfl, hs'.movesFrom hw⟩
    | word | log => cases hc

theorem done_goesOn {w : BitVec 9} {s : State} {h : Shape} (hs : s.Shows h) (hc : Shape.completes s.agenda h = true)
    (hw : s.pc = w ∨ (phaseEdge w s.pc = true ∧ h.moved = true)) : GoesOn w (done s) := settle_goesOn hs hc hw

theorem event_goesOn {w : BitVec 9} {s : State} {h : Shape} {e : Event} (hs : s.Shows h)
    (hc : Shape.completes s.agenda h = true) (hw : s.pc = w ∨ (phaseEdge w s.pc = true ∧ h.moved = true)) :
    GoesOn w (event s e) := settle_goesOn (hs.emit e) hc hw

/-! ### The event boundary and the fault path -/

theorem eq_pcWord_of_legalPc {w : BitVec 9} {p : Phase} (hp : pcPhase w = some p) (hl : legalPc w = true)
    (h0 : lastIndex p = 0) : w = pcWord p 0 := by
  rw [legalPc, hp] at hl
  have hindex : pcIndex w = 0 := by simpa [h0] using hl
  rw [eq_pcWord hp, hindex]

theorem windowOf_eq_shutdown {o : Option Phase} (h : windowOf o = .shutdown) : o = some .shutdown := by
  unfold windowOf at h
  split at h <;> first | rfl | cases h

theorem Shape.okNow_legalPc {h : Shape} (hok : h.okNow = true) : legalPc h.pc = true := by
  simp only [Shape.okNow, Bool.and_eq_true] at hok
  exact hok.1

theorem shutdown_ne_stopped : pcWord .shutdown 0 ≠ pcWord .stopped 0 := by decide

theorem failed_ne_stopped : pcWord .failed 0 ≠ pcWord .stopped 0 := by decide

/-- At an event boundary the block goes on where it does without a condition: with one it is on the fault path. -/
theorem atBoundary_goesOn {s : State} {h : Shape} {k : State → Result} (hs : s.Shows h) (hok : h.okNow = true)
    (hk : ∀ u : State, u.Shows h → u.agenda = s.agenda → u.now = s.now → GoesOn u.pc (k u)) :
    GoesOn s.pc (atBoundary s k) := by
  rcases hf : s.faultIn with _ | c
  · rw [atBoundary_calm (.inr hf)]
    simpa using hk s.passed hs.passed (by simp) (by simp)
  · cases hw : s.window with
    | outside =>
      rw [atBoundary_calm (.inl hw)]
      simpa using hk s.passed hs.passed (by simp) (by simp)
    | running =>
      rw [atBoundary_running hw hf]
      refine ⟨_, rfl, ⟨hs.notRefused, .inl ⟨rfl, .inr ⟨_, rfl⟩⟩⟩, .inr (.inr (.inl ⟨hw, rfl, ?_⟩)), fun h => ?_⟩
      · simp [takeLoopFault]
      · exact absurd h shutdown_ne_stopped
    | shutdown =>
      rw [atBoundary_shutdown hw hf]
      have hpc : s.pc = pcWord .shutdown 0 :=
        eq_pcWord_of_legalPc (windowOf_eq_shutdown hw) (hs.pc ▸ Shape.okNow_legalPc hok) rfl
      refine ⟨_, rfl, ⟨hs.notRefused, .inr ⟨rfl, rfl⟩⟩, .inr (.inr (.inr ⟨hpc, rfl, ?_⟩)), fun h => ?_⟩
      · simp [endFailed]
      · exact absurd h failed_ne_stopped

/-! ### The primitives, the burst and the compositions of one burst -/

section
variable {s : State} {h h' : Shape}

theorem opAcquire_goesOn {bus : Bus} (hs : s.Shows h) (hc : Shape.completes (.op (.acq bus) :: s.agenda) h = true) :
    GoesOn s.pc (opAcquire bus s) := by
  obtain ⟨hok, h', hi, hl⟩ := Shape.completes_op.mp hc
  refine atBoundary_goesOn hs hok fun u hu ha _ => ?_
  rw [← ha] at hc hl
  split
  · simp only [Shape.op, Option.ite_none_right_eq_some, Option.some.injEq] at hi
    obtain ⟨hmode, rfl⟩ := hi
    have hacq := busMode_acquire (bus := bus) (hmode ▸ hu.mode)
    cases bus
    all_goals
      refine event_goesOn ?_ hl (.inl rfl)
      exact { hu with mode := hacq, rx := rfl }
  · cases bus
    all_goals
      refine settle_goesOn (l := .op (.acq _) :: u.agenda) (s := u.usedGrant _) ?_ hc (.inl rfl)
      exact { hu with }

theorem opConfigure_goesOn {bus : Bus} (hs : s.Shows h) (hc : Shape.completes (.op (.cfg bus) :: s.agenda) h = true) :
    GoesOn s.pc (opConfigure bus s) := by
  obtain ⟨hok, h', hi, hl⟩ := Shape.completes_op.mp hc
  simp only [Shape.op, Option.ite_none_right_eq_some, Option.some.injEq] at hi
  obtain ⟨hmode, rfl⟩ := hi
  rw [opConfigure, if_pos (by simpa [hmode, BusMode.holds] using (busMode_eq_some.mp hs.mode bus).held)]
  refine atBoundary_goesOn hs hok fun u hu ha _ => ?_
  rw [← ha] at hl
  have hcfg := busMode_configure (hmode ▸ hu.mode)
  cases bus
  all_goals
    refine event_goesOn ?_ hl (.inl rfl)
    exact { hu with mode := hcfg }

theorem opCsLow_goesOn {d : Device} (hs : s.Shows h) (hc : Shape.completes (.op (.csl d) :: s.agenda) h = true) :
    GoesOn s.pc (opCsLow d s) := by
  obtain ⟨hok, h', hi, hl⟩ := Shape.completes_op.mp hc
  simp only [Shape.op, Option.ite_none_right_eq_some, Option.some.injEq] at hi
  obtain ⟨hmode, rfl⟩ := hi
  have hbus := busMode_eq_some.mp hs.mode d.bus
  have hheld : s.held d.bus = true := by simpa [hmode, BusMode.holds] using hbus.held
  have hcfgv : s.cfgv d.bus = true := by simpa [hmode, BusMode.holds, BusMode.configured] using hbus.cfgv
  rw [opCsLow, if_pos (by simp [hheld, hcfgv])]
  refine atBoundary_goesOn hs hok fun u hu ha _ => ?_
  rw [← ha] at hl
  have hcsl := busMode_select (hmode ▸ hu.mode)
  cases d
  all_goals
    refine event_goesOn ?_ hl (.inl rfl)
    exact { hu with mode := hcsl }

theorem opWait_goesOn {n : Nat} (hs : s.Shows h) (hc : Shape.completes (.op (.wait n) :: s.agenda) h = true) :
    GoesOn s.pc (opWait n s) := by
  obtain ⟨hok, h', hi, hl⟩ := Shape.completes_op.mp hc
  simp only [Shape.op, Option.ite_none_right_eq_some, Option.some.injEq] at hi
  obtain ⟨hn, rfl⟩ := hi
  rw [opWait, if_pos hn]
  refine atBoundary_goesOn hs hok fun u hu ha _ => ?_
  rw [← ha] at hl
  refine event_goesOn ?_ hl (.inl rfl)
  exact { hu with }

theorem opXfer_goesOn {bus : Bus} {tx : Byte} (hs : s.Shows h)
    (hc : Shape.completes (.op (.xfer bus tx) :: s.agenda) h = true) : GoesOn s.pc (opXfer bus tx s) := by
  obtain ⟨hok, h', hi, hl⟩ := Shape.completes_op.mp hc
  simp only [Shape.op, Option.ite_none_right_eq_some, Option.some.injEq] at hi
  obtain ⟨hmode, rfl⟩ := hi
  have hbus := busMode_eq_some.mp hs.mode bus
  have hheld : s.held bus = true := by simpa [hmode, BusMode.holds] using hbus.held
  have hcfgv : s.cfgv bus = true := by simpa [hmode, BusMode.holds, BusMode.configured] using hbus.cfgv
  have hcsn : s.csn bus.device = false := by simpa [hmode, BusMode.selects] using hbus.csn
  rw [opXfer, if_pos (by simp [hheld, hcfgv, hcsn])]
  refine atBoundary_goesOn hs hok fun u hu ha _ => ?_
  rw [← ha] at hl
  refine event_goesOn ?_ hl (.inl rfl)
  exact { hu with rx := by simp [hu.rx] }

theorem opCsHigh_goesOn {d : Device} (hs : s.Shows h) (hc : Shape.completes (.op (.csh d) :: s.agenda) h = true) :
    GoesOn s.pc (opCsHigh d s) := by
  obtain ⟨hok, h', hi, hl⟩ := Shape.completes_op.mp hc
  simp only [Shape.op, Option.ite_none_right_eq_some, Option.some.injEq] at hi
  obtain ⟨hmode, rfl⟩ := hi
  refine atBoundary_goesOn hs hok fun u hu ha _ => ?_
  rw [← ha] at hl
  have hcsh := busMode_deselect (hmode ▸ hu.mode)
  cases d
  all_goals
    refine event_goesOn ?_ hl (.inl rfl)
    exact { hu with mode := hcsh }

theorem opRelease_goesOn {bus : Bus} (hs : s.Shows h) (hc : Shape.completes (.op (.rel bus) :: s.agenda) h = true) :
    GoesOn s.pc (opRelease bus s) := by
  obtain ⟨hok, h', hi, hl⟩ := Shape.completes_op.mp hc
  simp only [Shape.op, Option.ite_none_right_eq_some, Option.some.injEq] at hi
  obtain ⟨hmode, rfl⟩ := hi
  have hbus := busMode_eq_some.mp hs.mode bus
  have hheld : s.held bus = true := by simpa [hmode, BusMode.holds] using hbus.held
  have hcsn : s.csn bus.device = true := by simpa [hmode, BusMode.selects] using hbus.csn
  rw [opRelease, if_pos (by simp [hheld, hcsn])]
  refine atBoundary_goesOn hs hok fun u hu ha _ => ?_
  rw [← ha] at hl
  have hrel := busMode_release (hmode ▸ hu.mode)
  cases bus
  all_goals
    refine event_goesOn ?_ hl (.inl rfl)
    exact { hu with mode := hrel }

/-- SetMux is no row that is in progress: what is to go through is what follows it. -/
theorem opSetMux_goesOn {sel : BitVec 4} (hs : s.Shows h) (hok : h.okNow = true)
    (hc : Shape.completes s.agenda h = true) : GoesOn s.pc (opSetMux sel s) := by
  refine atBoundary_goesOn hs hok fun u hu ha _ => ?_
  rw [← ha] at hc
  refine event_goesOn ?_ hc (.inl rfl)
  exact { hu with }

/-! ### The burst -/

/-- One operation of what is left in progress, where the summary lets it run. -/
theorem Shape.completes_cons {i : Instr} {l : List Frame} (hi : h.op i = some h') (hok : h.okNow = true)
    (hc : Shape.completes l h' = true) : Shape.completes (.op i :: l) h = true :=
  Shape.completes_op.mpr ⟨hok, h', hi, hc⟩

theorem Shape.op_acq {bus : Bus} (hm : h.mode = .idle) :
    h.op (.acq bus) = some { h with mode := .acquired bus, rx := 0, moved := false } := if_pos hm

theorem Shape.op_cfg {bus : Bus} (hm : h.mode = .acquired bus) :
    h.op (.cfg bus) = some { h with mode := .ready bus, moved := false } := if_pos hm

theorem Shape.op_csl {d : Device} (hm : h.mode = .ready d.bus) :
    h.op (.csl d) = some { h with mode := .selected d.bus, moved := false } := if_pos hm

theorem Shape.op_wait {n : Nat} (hn : 0 < n) : h.op (.wait n) = some { h with moved := false } := if_pos hn

theorem Shape.op_xfer {bus : Bus} {b : Byte} (hm : h.mode = .selected bus) :
    h.op (.xfer bus b) = some { h with rx := h.rx + 1, moved := false } := if_pos hm

theorem Shape.op_csh {d : Device} (hm : h.mode = .selected d.bus) :
    h.op (.csh d) = some { h with mode := .ready d.bus, moved := false } := if_pos hm

theorem Shape.op_rel {bus : Bus} (hm : h.mode = .ready bus) :
    h.op (.rel bus) = some { h with mode := .idle, moved := false } := if_pos hm

theorem Shape.op_burst {d : Device} {setup : Nat} {tx : List Byte} (hm : h.mode = .idle) (htx : tx ≠ []) :
    h.op (.burst d.bus d setup tx) = some { h with rx := tx.length, moved := false } := if_pos (by simp [hm, htx])

theorem Shape.op_readAdc {a : BitVec 3} (hm : h.mode = .idle) :
    h.op (.readAdc a) = some { h with rx := 2, reading := true, moved := false } := if_pos hm

theorem Shape.completes_xfers {bus : Bus} {tx : List Byte} {l : List Frame} (hmode : h.mode = .selected bus)
    (hok : h.okNow = true) (hc : Shape.completes l { h with rx := h.rx + tx.length, moved := false } = true)
    (hmoved : h.moved = false) : Shape.completes (tx.map (fun b => .op (.xfer bus b)) ++ l) h = true := by
  induction tx generalizing h with
  | nil => rwa [List.length_nil, Nat.add_zero, ← hmoved] at hc
  | cons b tx ih =>
    refine Shape.completes_cons (Shape.op_xfer hmode) hok (ih hmode hok ?_ rfl)
    rwa [List.length_cons, Nat.add_comm tx.length, ← Nat.add_assoc] at hc

/-- The setup wait of a burst, where it has one. -/
theorem Shape.completes_setup {setup : Nat} {l : List Frame} (hok : h.okNow = true) (hmoved : h.moved = false)
    (hc : Shape.completes l h = true) :
    Shape.completes ((if 0 < setup then [.op (.wait setup)] else []) ++ l) h = true := by
  split
  next hpos =>
    refine Shape.completes_cons (Shape.op_wait hpos) hok ?_
    rwa [← hmoved]
  next => exact hc

/-- A burst in progress goes through where its primitives do. -/
theorem Shape.completes_burst {bus : Bus} {d : Device} {setup : Nat} {tx : List Byte} {l : List Frame}
    (hc : Shape.completes (.op (.burst bus d setup tx) :: l) h = true) :
    Shape.completes (.op (.acq bus) :: (burstTail bus d setup tx ++ l)) h = true := by
  obtain ⟨hok, h', hi, hl⟩ := Shape.completes_op.mp hc
  simp only [Shape.op, Option.ite_none_right_eq_some, Option.some.injEq, Bool.and_eq_true, decide_eq_true_eq] at hi
  obtain ⟨⟨⟨hmode, rfl⟩, -⟩, rfl⟩ := hi
  simp only [burstTail, List.append_assoc, List.cons_append, List.nil_append]
  refine Shape.completes_cons (Shape.op_acq hmode) hok ?_
  refine Shape.completes_cons (Shape.op_cfg rfl) hok ?_
  refine Shape.completes_cons (Shape.op_csl rfl) hok ?_
  refine Shape.completes_setup hok rfl (Shape.completes_xfers rfl hok ?_ rfl)
  refine Shape.completes_cons (Shape.op_csh rfl) hok ?_
  refine Shape.completes_cons (Shape.op_rel rfl) hok ?_
  rwa [Nat.zero_add, ← hmode]

theorem opBurst_goesOn {bus : Bus} {d : Device} {setup : Nat} {tx : List Byte} (hs : s.Shows h)
    (hc : Shape.completes (.op (.burst bus d setup tx) :: s.agenda) h = true) :
    GoesOn s.pc (opBurst bus d setup tx s) :=
  opAcquire_goesOn (hs.withAgenda _) (Shape.completes_burst hc)

/-! ### The rows that are one burst with silent actions, and the chunks -/

theorem opReadAdc_goesOn {a : BitVec 3} {after : List Frame} (hs : s.Shows h) (hok : h.okNow = true)
    (hi : h.op (.readAdc a) = some h') (hc : Shape.completes (after ++ s.agenda) h' = true) :
    GoesOn s.pc (opReadAdc a after s) := by
  simp only [Shape.op, Option.ite_none_right_eq_some, Option.some.injEq] at hi
  obtain ⟨hmode, rfl⟩ := hi
  refine opBurst_goesOn (hs.withAgenda _) (Shape.completes_cons (Shape.op_burst hmode (by simp [adcBytes])) hok ?_)
  exact Shape.completes_act.mpr ⟨_, rfl, hc⟩

theorem State.setPc_self {p : Phase} {k : Nat} (hpc : s.pc = pcWord p k) : s.setPc p k = s := by
  rw [State.setPc, ← hpc]

theorem phaseEdge_nextCfg : ∀ k : Fin 5, phaseEdge (pcWord .canCfg k.val) (nextCfg k.val) = true := by decide

theorem phaseEdge_nextSample : ∀ k : Fin 23, phaseEdge (pcWord .sample k.val) (nextSample k.val) = true := by decide

theorem phaseEdge_nextTx : ∀ k : Fin 6, phaseEdge (pcWord .tx k.val) (nextTx k.val) = true := by decide

theorem opCfgWrite_goesOn {k : Fin 5} (hs : s.Shows h) (hok : h.okNow = true) (hi : h.write k.val = some h')
    (hc : Shape.completes s.agenda h' = true) : GoesOn s.pc (opCfgWrite k s) := by
  simp only [Shape.write, Option.ite_none_right_eq_some, Option.some.injEq, Bool.and_eq_true, decide_eq_true_eq] at hi
  obtain ⟨⟨hmode, hpc⟩, rfl⟩ := hi
  rw [opCfgWrite, State.setPc_self (hs.pc.trans hpc)]
  refine opBurst_goesOn (hs.withAgenda _) (Shape.completes_cons (Shape.op_burst hmode (by simp [writeBytes])) hok ?_)
  refine Shape.completes_act.mpr ⟨_, rfl, Shape.completes_act.mpr ⟨_, ?_, hc⟩⟩
  simp [Shape.act, hpc, phaseEdge_nextCfg k, writeBytes]

/-- A read's silent end: the register written and pc moved on. -/
theorem Shape.completes_readEnd {i : Fin 23} {l : List Frame} (hr : h.reading = true) (hpc : h.pc = pcWord .sample i.val)
    (hm : h.moved = false)
    (hc : Shape.completes l { h with pc := nextSample i.val, x := h.x.set i.val true, moved := true } = true) :
    Shape.completes (.act (.writeX i) :: .act (.setPc (nextSample i.val)) :: l) h = true := by
  refine Shape.completes_act.mpr ⟨_, rfl, Shape.completes_act.mpr ⟨_, ?_, hc⟩⟩
  simp [Shape.act, hr, hpc, hm, phaseEdge_nextSample i]

theorem opReadDirect_goesOn {i : Fin 7} (hs : s.Shows h) (hok : h.okNow = true)
    (hi : h.read (i.castLE (by decide)) = some h') (hc : Shape.completes s.agenda h' = true) :
    GoesOn s.pc (opReadDirect i s) := by
  simp only [Shape.read, Option.ite_none_right_eq_some, Option.some.injEq, Bool.and_eq_true, decide_eq_true_eq] at hi
  obtain ⟨⟨⟨hmode, -⟩, hpc⟩, rfl⟩ := hi
  rw [opReadDirect, State.setPc_self (p := .sample) (k := i.val) (hs.pc.trans hpc)]
  exact opReadAdc_goesOn hs hok (Shape.op_readAdc hmode) (Shape.completes_readEnd rfl hpc rfl hc)

theorem opReadMuxed_goesOn {j : Fin 16} (hs : s.Shows h) (hok : h.okNow = true)
    (hi : h.read ⟨j.val + 7, by omega⟩ = some h') (hc : Shape.completes s.agenda h' = true) :
    GoesOn s.pc (opReadMuxed j s) := by
  simp only [Shape.read, Option.ite_none_right_eq_some, Option.some.injEq, Bool.and_eq_true, decide_eq_true_eq] at hi
  obtain ⟨⟨⟨hmode, -⟩, hpc⟩, rfl⟩ := hi
  rw [opReadMuxed, State.setPc_self (hs.pc.trans hpc)]
  refine opSetMux_goesOn (hs.withAgenda _) hok ?_
  refine Shape.completes_cons (Shape.op_wait (by decide)) hok ?_
  refine Shape.completes_cons (Shape.op_readAdc hmode) hok ?_
  exact Shape.completes_readEnd (i := ⟨j.val + 7, by omega⟩) rfl hpc rfl hc

end

/-! ### What is written is read -/

theorem allWritten_eq_some {α : Type} {l : List (Option α)} {v : List α} : allWritten l = some v ↔ l = v.map some := by
  induction l generalizing v with
  | nil => cases v <;> simp [allWritten]
  | cons o l ih =>
    cases o with
    | none => cases v <;> simp [allWritten]
    | some a =>
      cases v with
      | nil => simp [allWritten]
      | cons b v => simp [allWritten, ih, and_comm (a := l = _)]

theorem exists_allWritten {α : Type} {l : List (Option α)} (h : l.all Option.isSome = true) :
    ∃ v, allWritten l = some v := by
  induction l with
  | nil => exact ⟨[], rfl⟩
  | cons o l ih =>
    obtain ⟨ho, hl⟩ := Bool.and_eq_true_iff.mp (List.all_cons ▸ h)
    obtain ⟨a, rfl⟩ := Option.isSome_iff_exists.mp ho
    obtain ⟨v, hv⟩ := ih hl
    exact ⟨a :: v, by simp [allWritten, hv]⟩

/-- A chunk of a payload that holds a value has its bytes, at most 8 of them (R124). -/
theorem exists_chunk {pay : Vector (Option Byte) 46} (h : pay.toList.all Option.isSome = true) (k : Nat) :
    ∃ l, chunk pay k = some l ∧ l.length ≤ 8 := by
  obtain ⟨l, hl⟩ := exists_allWritten (l := (pay.toList.drop (8 * k)).take (min (8 * k + 7) 45 + 1 - 8 * k)) <|
    List.all_eq_true.mpr fun o ho => List.all_eq_true.mp h o (List.mem_of_mem_drop (List.mem_of_mem_take ho))
  refine ⟨l, hl, ?_⟩
  have hlength := congrArg List.length (allWritten_eq_some.mp hl)
  rw [List.length_map] at hlength
  rw [← hlength, List.length_take]
  omega

theorem chunkId_le (k : Fin 6) : (chunkId k.val).toNat ≤ Config.canIdMax := by revert k; decide

theorem exists_frame {s : State} (h : (s.x.toList.map Option.isSome).all id = true) : ∃ v, s.frame = some v :=
  exists_allWritten (by simpa [List.all_map] using h)

theorem packed_all_isSome {x : Vector (Option Reading) 23} (h : (x.toList.map Option.isSome).all id = true) :
    (packed x).toList.all Option.isSome = true := by
  have hx : ∀ i (hi : i < 23), x[i].isSome = true := fun i hi => by
    simpa using List.all_eq_true.mp h x[i].isSome (List.mem_map_of_mem (Vector.getElem_mem hi |> Vector.mem_toList_iff.mpr))
  simp only [packed, Vector.toList_ofFn, List.all_eq_true, List.mem_ofFn, forall_exists_index]
  rintro _ j rfl
  simpa [packByte] using hx (j.val / 2) (by omega)

/-! ### Frames -/

/-- SEND_FRAME in an Operational driver, with an identifier and a length in range, is the load and what follows (R100). -/
theorem opSendFrame_sends {id : BitVec 16} {data : List Byte} {after : List Frame} {onError : TxError → State → Result}
    {s : State} (hc : s.canst = .operational) (hid : id.toNat ≤ Config.canIdMax) (hd : data.length ≤ Config.canMaxLen) :
    opSendFrame id data after onError s = opLoadTx0 (id.setWidth 11) data (.op .canRts0Cmd :: .act .sent :: after) s := by
  rw [opSendFrame, if_neg (not_not.mpr hc), if_neg (Nat.not_lt.mpr hid), if_neg (Nat.not_lt.mpr hd)]

section
variable {s : State} {h h' : Shape}

theorem Shape.op_canRts0Cmd (hm : h.mode = .idle) : h.op .canRts0Cmd = some { h with rx := 1, moved := false } :=
  if_pos hm

theorem opLoadTx0_goesOn {id : BitVec 11} {data : List Byte} {after : List Frame} (hs : s.Shows h) (hok : h.okNow = true)
    (hmode : h.mode = .idle)
    (hc : ∀ n, Shape.completes (after ++ s.agenda) { h with rx := n, moved := false } = true) :
    GoesOn s.pc (opLoadTx0 id data after s) := by
  unfold opLoadTx0
  split
  · refine opBurst_goesOn (hs.withAgenda _) (Shape.completes_cons (Shape.op_burst hmode (by simp)) hok ?_)
    refine Shape.completes_cons (Shape.op_burst (d := .can) hmode (by simp [loadHeader])) hok ?_
    exact Shape.completes_act.mpr ⟨_, rfl, hc _⟩
  · refine opBurst_goesOn (hs.withAgenda _) (Shape.completes_cons (Shape.op_burst hmode (by simp)) hok ?_)
    exact Shape.completes_act.mpr ⟨_, rfl, hc _⟩

theorem opChunk_goesOn {k : Fin 6} (hs : s.Shows h) (hok : h.okNow = true) (hi : h.send k.val = some h')
    (hc : Shape.completes s.agenda h' = true) : GoesOn s.pc (opChunk k s) := by
  simp only [Shape.send, Option.ite_none_right_eq_some, Option.some.injEq, Bool.and_eq_true, decide_eq_true_eq] at hi
  obtain ⟨⟨⟨⟨hmode, hcanst⟩, hpay⟩, hpc⟩, rfl⟩ := hi
  obtain ⟨l, hchunk, hlength⟩ := exists_chunk (hs.pay.trans hpay) k.val
  have hop : s.canst = .operational := hs.canst.trans hcanst
  rw [opChunk, if_neg (not_not.mpr hop), hchunk, State.setPc_self (hs.pc.trans hpc)]
  dsimp only
  rw [opSendFrame_sends hop (chunkId_le k) hlength]
  refine opLoadTx0_goesOn hs hok hmode fun n => ?_
  refine Shape.completes_cons (Shape.op_canRts0Cmd hmode) hok (Shape.completes_act.mpr ⟨_, rfl, ?_⟩)
  have hend : Shape.completes (.act (.setPc (nextTx k.val)) :: s.agenda)
      { h with rx := 1, reading := false, moved := false } = true :=
    Shape.completes_act.mpr ⟨_, if_pos (by simp [hpc, phaseEdge_nextTx k]), hc⟩
  unfold interframe
  split
  · exact Shape.completes_cons (Shape.op_wait (by decide)) hok hend
  · exact hend

theorem execCanRts0Cmd_goesOn (hs : s.Shows h) (hok : h.okNow = true) (hi : h.op .canRts0Cmd = some h')
    (hc : Shape.completes s.agenda h' = true) : GoesOn s.pc (execCanRts0Cmd s) := by
  simp only [Shape.op, Option.ite_none_right_eq_some, Option.some.injEq] at hi
  obtain ⟨hmode, rfl⟩ := hi
  exact opBurst_goesOn (hs.withAgenda _) (Shape.completes_cons (Shape.op_burst hmode (by simp)) hok hc)

theorem Shape.wellFormed_of_op_burst {bus : Bus} {d : Device} {setup : Nat} {tx : List Byte}
    (hi : h.op (.burst bus d setup tx) = some h') : (Instr.burst bus d setup tx).wellFormed = true := by
  simp only [Shape.op, Option.ite_none_right_eq_some, Bool.and_eq_true] at hi
  simp [Instr.wellFormed, hi.1.1.2, hi.1.2]

/-! ### An operation in progress goes on -/

theorem exec_goesOn {i : Instr} (hs : s.Shows h) (hc : Shape.completes (.op i :: s.agenda) h = true) :
    GoesOn s.pc (exec i s) := by
  obtain ⟨hok, h', hi, hl⟩ := Shape.completes_op.mp hc
  cases i with
  | acq => exact opAcquire_goesOn hs hc
  | cfg => exact opConfigure_goesOn hs hc
  | csl => exact opCsLow_goesOn hs hc
  | wait => exact opWait_goesOn hs hc
  | xfer => exact opXfer_goesOn hs hc
  | csh => exact opCsHigh_goesOn hs hc
  | rel => exact opRelease_goesOn hs hc
  | burst =>
    rw [exec, execBurst, if_pos (Shape.wellFormed_of_op_burst hi)]
    exact opBurst_goesOn hs hc
  | readAdc => exact opReadAdc_goesOn (after := []) hs hok hi hl
  | canRts0Cmd => exact execCanRts0Cmd_goesOn hs hok hi hl
  | cfgWrite1 => exact opCfgWrite_goesOn (k := 0) hs hok hi hl
  | cfgWrite2 => exact opCfgWrite_goesOn (k := 1) hs hok hi hl
  | cfgWrite3 => exact opCfgWrite_goesOn (k := 2) hs hok hi hl
  | cfgWrite4 => exact opCfgWrite_goesOn (k := 3) hs hok hi hl
  | cfgWrite5 => exact opCfgWrite_goesOn (k := 4) hs hok hi hl
  | readDirect0 => exact opReadDirect_goesOn (i := 0) hs hok hi hl
  | readDirect1 => exact opReadDirect_goesOn (i := 1) hs hok hi hl
  | readDirect2 => exact opReadDirect_goesOn (i := 2) hs hok hi hl
  | readDirect3 => exact opReadDirect_goesOn (i := 3) hs hok hi hl
  | readDirect4 => exact opReadDirect_goesOn (i := 4) hs hok hi hl
  | readDirect5 => exact opReadDirect_goesOn (i := 5) hs hok hi hl
  | readDirect6 => exact opReadDirect_goesOn (i := 6) hs hok hi hl
  | readMuxed7 => exact opReadMuxed_goesOn (j := 0) hs hok hi hl
  | readMuxed8 => exact opReadMuxed_goesOn (j := 1) hs hok hi hl
  | readMuxed9 => exact opReadMuxed_goesOn (j := 2) hs hok hi hl
  | readMuxed10 => exact opReadMuxed_goesOn (j := 3) hs hok hi hl
  | readMuxed11 => exact opReadMuxed_goesOn (j := 4) hs hok hi hl
  | readMuxed12 => exact opReadMuxed_goesOn (j := 5) hs hok hi hl
  | readMuxed13 => exact opReadMuxed_goesOn (j := 6) hs hok hi hl
  | readMuxed14 => exact opReadMuxed_goesOn (j := 7) hs hok hi hl
  | readMuxed15 => exact opReadMuxed_goesOn (j := 8) hs hok hi hl
  | readMuxed16 => exact opReadMuxed_goesOn (j := 9) hs hok hi hl
  | readMuxed17 => exact opReadMuxed_goesOn (j := 10) hs hok hi hl
  | readMuxed18 => exact opReadMuxed_goesOn (j := 11) hs hok hi hl
  | readMuxed19 => exact opReadMuxed_goesOn (j := 12) hs hok hi hl
  | readMuxed20 => exact opReadMuxed_goesOn (j := 13) hs hok hi hl
  | readMuxed21 => exact opReadMuxed_goesOn (j := 14) hs hok hi hl
  | readMuxed22 => exact opReadMuxed_goesOn (j := 15) hs hok hi hl
  | sendChunk0 => exact opChunk_goesOn (k := 0) hs hok hi hl
  | sendChunk1 => exact opChunk_goesOn (k := 1) hs hok hi hl
  | sendChunk2 => exact opChunk_goesOn (k := 2) hs hok hi hl
  | sendChunk3 => exact opChunk_goesOn (k := 3) hs hok hi hl
  | sendChunk4 => exact opChunk_goesOn (k := 4) hs hok hi hl
  | sendChunk5 => exact opChunk_goesOn (k := 5) hs hok hi hl
  | _ => cases hi

/-! ### The phases go on -/

/-- What `Shape.boundary` asks of the summary in each phase. -/
def Shape.Needs (h : Shape) : Phase → Prop
  | .idle | .canReset | .canCfg => h.fresh = true
  | .schedInit => h.canst = .operational ∧ h.fresh = true
  | .stopCheck | .sample | .sleep => h.canst = .operational ∧ h.started = true
  | .clock => h.canst = .operational ∧ h.started = true ∧ h.x.all id = true
  | .store | .tx => h.canst = .operational ∧ h.started = true ∧ h.clocked = true ∧ h.x.all id = true
  | .shutdown | .stopped => h.canst = .operational
  | .failed => False

theorem Shape.boundary_iff {p : Phase} (hpc : h.pc = pcWord p 0) : h.boundary = true ↔ h.mode = .idle ∧ h.Needs p := by
  cases p <;>
    simp [Shape.boundary, Shape.okNow, legalPc, hpc, pcPhase_pcWord, pcIndex_pcWord, Shape.Needs, and_assoc, and_left_comm,
      and_comm (b := h.mode = _)]

theorem Shape.okNow_of_boundary (hb : h.boundary = true) : h.okNow = true := by
  simp only [Shape.boundary, Bool.and_eq_true] at hb
  exact hb.1.1.1

theorem Shape.completes_nil {l : List Frame} {p : Phase} (hl : l = []) (hpc : h.pc = pcWord p 0) (hmode : h.mode = .idle)
    (hn : h.Needs p) : Shape.completes l h = true := by
  rw [hl]
  exact (Shape.boundary_iff hpc).mpr ⟨hmode, hn⟩

theorem le_clockIn {c : Nat} (hc : s.lastClk = some c) : c ≤ s.clockIn := by
  simp only [State.clockIn, State.clockFloor, hc]
  omega

theorem State.Shows.unclocked (hs : s.Shows h) (hf : h.fresh = true) : s.now = none ∧ s.ts = none := by
  simpa [hf] using hs.fresh

theorem State.Shows.withMoved (hs : s.Shows h) (b : Bool) : s.Shows { h with moved := b } := { hs with }

/-- A meaning that ends its phase: pc has moved along R18 and the next phase has what it needs. -/
theorem done_endsPhase {w : BitVec 9} {p q : Phase} (hs : s.Shows h) (hl : s.agenda = []) (hp : w = pcWord p 0)
    (hq : h.pc = pcWord q 0) (hmode : h.mode = .idle) (hn : h.Needs q)
    (he : phaseEdge (pcWord p 0) (pcWord q 0) = true) : GoesOn w (done s) := by
  refine done_goesOn (hs.withMoved true) (Shape.completes_nil hl hq hmode ?_) (.inr ⟨?_, rfl⟩)
  · cases q <;> exact hn
  · rw [hp, hs.pc, hq, he]

theorem execPIdle_goesOn (hs : s.Shows h) (hl : s.agenda = []) (hpc : h.pc = pcWord .idle 0) (hmode : h.mode = .idle)
    (hn : h.Needs .idle) : GoesOn s.pc (execPIdle s) := by
  have hp : s.pc = pcWord .idle 0 := hs.pc.trans hpc
  have hdone : execPIdle s = done { s.usedStart with pc := if s.startIn then pcWord .canReset 0 else s.pc } := by
    simp [execPIdle, done, hl]
  rw [hdone]
  cases s.startIn with
  | true =>
    exact done_endsPhase (h := { h with pc := pcWord .canReset 0 }) { hs with pc := rfl } hl hp rfl hmode hn (by decide)
  | false => exact done_goesOn (h := h) { hs with } (Shape.completes_nil hl hpc hmode hn) (.inl rfl)

theorem execCanReset_goesOn (hs : s.Shows h) (hl : s.agenda = []) (hpc : h.pc = pcWord .canReset 0)
    (hmode : h.mode = .idle) (hn : h.Needs .canReset) : GoesOn s.pc (execCanReset s) := by
  have hshows : State.Shows { s with canst := .resetting } { h with canst := .resetting } := { hs with canst := rfl }
  have hok : ∀ {c : CanState} {n : Nat} {m : BusMode} {b : Bool},
      Shape.okNow { h with canst := c, rx := n, mode := m, moved := b } = true := by
    simp [Shape.okNow, legalPc, hpc, pcPhase_pcWord, pcIndex_pcWord]
  refine opBurst_goesOn (hshows.withAgenda _) (Shape.completes_cons (Shape.op_burst hmode (by simp)) hok ?_)
  refine Shape.completes_cons (Shape.op_wait (by decide)) hok (Shape.completes_act.mpr ⟨_, rfl, ?_⟩)
  refine Shape.completes_act.mpr ⟨_, if_pos ?_, Shape.completes_nil hl rfl hmode hn⟩
  simp only [hpc]
  decide

/-- The four writes after the first, and CANST after them. -/
theorem Shape.completes_writes (hpc : h.pc = pcWord .canCfg 1) (hmode : h.mode = .idle) (hfresh : h.fresh = true) :
    Shape.completes (cfgRows.tail.map Frame.op ++ [.act (.setCanst .operational)]) h = true := by
  simp [cfgRows, Shape.completes, Shape.op, Shape.write, Shape.act, nextCfg, Shape.boundary, Shape.okNow, legalPc,
    pcPhase_pcWord, pcIndex_pcWord, lastIndex, hpc, hmode, hfresh]

theorem execCanConfigure_goesOn (hs : s.Shows h) (hl : s.agenda = []) (hpc : h.pc = pcWord .canCfg 0)
    (hmode : h.mode = .idle) (hn : h.Needs .canCfg) : GoesOn s.pc (execCanConfigure s) := by
  have hshows : State.Shows { s with canst := .configuring } { h with canst := .configuring } := { hs with canst := rfl }
  refine opCfgWrite_goesOn (hshows.withAgenda _) ?_ (if_pos (by simp [hmode, hpc])) ?_
  · simp [Shape.okNow, legalPc, hpc, pcPhase_pcWord, pcIndex_pcWord]
  · rw [hl]
    exact Shape.completes_writes rfl hmode hn

theorem execSchedInit_goesOn (hs : s.Shows h) (hok : h.okNow = true) (hl : s.agenda = []) (hpc : h.pc = pcWord .schedInit 0)
    (hmode : h.mode = .idle) (hn : h.Needs .schedInit) : GoesOn s.pc (execSchedInit s) := by
  refine atBoundary_goesOn hs hok fun u hu hul _ => ?_
  refine done_endsPhase (h := { h with pc := pcWord .stopCheck 0, started := true }) ?_ (hul.trans hl) (hu.pc.trans hpc) rfl
    hmode ⟨hn.1, rfl⟩ (by decide)
  have hnow : ∀ {n}, u.now ≠ some n := by simp [(hu.unclocked hn.2).1]
  refine { hu with pc := rfl, started := fun _ => rfl, ordered := ⟨?_, ?_, ?_, ?_, ?_⟩ }
  · rintro _ ⟨⟩
    exact ⟨_, rfl, le_rfl⟩
  · rintro _ ⟨⟩
    exact ⟨_, rfl, le_rfl⟩
  · exact fun _ hn => absurd hn hnow
  · exact fun _ _ _ hn => absurd hn hnow
  · exact fun _ _ _ hn => absurd hn hnow

theorem execStopCheck_goesOn (hs : s.Shows h) (hok : h.okNow = true) (hl : s.agenda = []) (hpc : h.pc = pcWord .stopCheck 0)
    (hmode : h.mode = .idle) (hn : h.Needs .stopCheck) : GoesOn s.pc (execStopCheck s) := by
  refine atBoundary_goesOn hs hok fun u hu hul _ => ?_
  cases u.stopIn with
  | true =>
    exact done_endsPhase (h := { h with pc := pcWord .shutdown 0 }) { hu with pc := rfl } (hul.trans hl)
      (hu.pc.trans hpc) rfl hmode hn.1 (by decide)
  | false =>
    exact done_endsPhase (h := { h with pc := pcWord .sample 0 }) { hu with pc := rfl } (hul.trans hl)
      (hu.pc.trans hpc) rfl hmode hn (by decide)

theorem execReadClock_goesOn (hs : s.Shows h) (hok : h.okNow = true) (hl : s.agenda = []) (hpc : h.pc = pcWord .clock 0)
    (hmode : h.mode = .idle) (hn : h.Needs .clock) : GoesOn s.pc (execReadClock s) := by
  refine atBoundary_goesOn hs hok fun u hu hul _ => ?_
  refine done_endsPhase (h := { h with pc := pcWord .store 0, clocked := true, fresh := false }) ?_ (hul.trans hl)
    (hu.pc.trans hpc) rfl hmode ⟨hn.1, hn.2.1, rfl, hn.2.2⟩ (by decide)
  obtain ⟨hstore, htx, -⟩ := hu.ordered
  have hle : ∀ {a}, (∃ c, u.lastClk = some c ∧ a ≤ c) → a ≤ u.clockIn := fun ⟨_, hc, hac⟩ => hac.trans (le_clockIn hc)
  refine { hu with pc := rfl, clocked := rfl, fresh := rfl, ordered := ⟨?_, ?_, ?_, ?_, ?_⟩ }
  · exact fun a ha => ⟨_, rfl, hle (hstore a ha)⟩
  · exact fun a ha => ⟨_, rfl, hle (htx a ha)⟩
  · rintro _ ⟨⟩
    exact ⟨_, rfl, le_rfl⟩
  · rintro a _ ha ⟨⟩
    exact hle (hstore a ha)
  · rintro a _ ha ⟨⟩
    exact hle (htx a ha)

theorem execLoopSleep_goesOn (hs : s.Shows h) (hok : h.okNow = true) (hl : s.agenda = []) (hpc : h.pc = pcWord .sleep 0)
    (hmode : h.mode = .idle) (hn : h.Needs .sleep) : GoesOn s.pc (execLoopSleep s) := by
  refine opWait_goesOn (hs.withAgenda _) (Shape.completes_cons (Shape.op_wait (by decide)) hok ?_)
  refine Shape.completes_act.mpr ⟨_, if_pos ?_, Shape.completes_nil hl rfl hmode hn⟩
  simp only [hpc]
  decide

theorem execShutdown_goesOn (hs : s.Shows h) (hok : h.okNow = true) (hl : s.agenda = []) (hpc : h.pc = pcWord .shutdown 0)
    (hmode : h.mode = .idle) (hn : h.Needs .shutdown) : GoesOn s.pc (execShutdown s) := by
  refine atBoundary_goesOn hs hok fun u hu hul _ => ?_
  rw [if_neg (by simp [hu.noFault])]
  exact done_endsPhase (h := { h with pc := pcWord .stopped 0 }) { hu with pc := rfl } (hul.trans hl)
    (hu.pc.trans hpc) rfl hmode hn (by decide)

/-- The 22 reads after the first. -/
theorem Shape.completes_reads (hpc : h.pc = pcWord .sample 1) (hmode : h.mode = .idle) (hcanst : h.canst = .operational)
    (hstarted : h.started = true) (hx : h.x = (List.replicate 23 false).set 0 true) :
    Shape.completes (sampleRows.tail.map Frame.op) h = true := by
  simp [sampleRows, Shape.completes, Shape.op, Shape.read, nextSample, Shape.boundary, Shape.okNow, legalPc,
    pcPhase_pcWord, pcIndex_pcWord, lastIndex, hpc, hmode, hcanst, hstarted, hx]

theorem execSampleAll_goesOn (hs : s.Shows h) (hok : h.okNow = true) (hl : s.agenda = []) (hpc : h.pc = pcWord .sample 0)
    (hmode : h.mode = .idle) (hn : h.Needs .sample) : GoesOn s.pc (execSampleAll s) := by
  have hshows : State.Shows { s with x := Vector.replicate 23 none } { h with x := List.replicate 23 false } :=
    { hs with x := by simp [Vector.toList_replicate] }
  obtain ⟨hcanst, hstarted⟩ := hn
  refine opReadDirect_goesOn (hshows.withAgenda _) hok (if_pos (by simp [hmode, hcanst, hpc])) ?_
  rw [hl]
  exact Shape.completes_reads rfl hmode hcanst hstarted rfl

/-- The five chunks after the first, and what ends TX_IF_DUE. -/
theorem Shape.completes_chunks (hpc : h.pc = pcWord .tx 1) (hmode : h.mode = .idle) (hcanst : h.canst = .operational)
    (hpay : h.pay = true) (hstarted : h.started = true) (hclocked : h.clocked = true) :
    Shape.completes (chunkRows.tail.map Frame.op ++ [.act .dropPay, .act .lastTx]) h = true := by
  simp [chunkRows, Shape.completes, Shape.op, Shape.send, Shape.act, nextTx, Shape.boundary, Shape.okNow, legalPc,
    pcPhase_pcWord, pcIndex_pcWord, lastIndex, hpc, hmode, hcanst, hpay, hstarted, hclocked]

theorem execStoreIfDue_goesOn (hs : s.Shows h) (hok : h.okNow = true) (hl : s.agenda = []) (hpc : h.pc = pcWord .store 0)
    (hmode : h.mode = .idle) (hn : h.Needs .store) : GoesOn s.pc (execStoreIfDue s) := by
  obtain ⟨hcanst, hstarted, hclocked, hx⟩ := hn
  obtain ⟨⟨last, hlast⟩, -⟩ : (∃ a, s.lastStore = some a) ∧ ∃ a, s.lastTx = some a := by
    simpa [Option.isSome_iff_exists] using hs.started hstarted
  obtain ⟨⟨now, hnow⟩, ts, hts⟩ : (∃ n, s.now = some n) ∧ ∃ n, s.ts = some n := by
    simpa [Option.isSome_iff_exists] using hs.clocked.trans hclocked
  obtain ⟨v, hv⟩ := exists_frame (hs.x ▸ hx)
  simp only [execStoreIfDue, hnow, hlast, hts, hv]
  split
  · refine atBoundary_goesOn hs hok fun u hu hul hun => ?_
    refine done_endsPhase (h := { h with pc := pcWord .tx 0 }) ?_ (hul.trans hl) (hu.pc.trans hpc) rfl hmode
      ⟨hcanst, hstarted, hclocked, hx⟩ (by decide)
    obtain ⟨-, htxClk, hnowClk, -, htx⟩ := hu.ordered
    refine { hu with pc := rfl, started := ?_, ordered := ⟨?_, htxClk, hnowClk, ?_, htx⟩ }
    · rintro _ ⟨⟩
      exact hnowClk now (hun.trans hnow)
    · rintro _ n ⟨⟩ hn
      exact (Option.some.inj ((hun.trans hnow).symm.trans hn)).le
    · simpa using fun hst => (Bool.and_eq_true_iff.mp (hu.started hst)).2
  · exact done_endsPhase (h := { h with pc := pcWord .tx 0 }) { hs with pc := rfl } hl (hs.pc.trans hpc) rfl hmode
      ⟨hcanst, hstarted, hclocked, hx⟩ (by decide)

theorem State.Shows.withPay {pay : Vector (Option Byte) 46} (hs : s.Shows h)
    (hpay : pay.toList.all Option.isSome = true) :
    State.Shows { s with pay := pay, payLive := true } { h with pay := true } :=
  { hs with pay := hpay }

theorem execTxIfDue_goesOn (hs : s.Shows h) (hok : h.okNow = true) (hl : s.agenda = []) (hpc : h.pc = pcWord .tx 0)
    (hmode : h.mode = .idle) (hn : h.Needs .tx) : GoesOn s.pc (execTxIfDue s) := by
  obtain ⟨hcanst, hstarted, hclocked, hx⟩ := hn
  obtain ⟨-, last, hlast⟩ : (∃ a, s.lastStore = some a) ∧ ∃ a, s.lastTx = some a := by
    simpa [Option.isSome_iff_exists] using hs.started hstarted
  obtain ⟨⟨now, hnow⟩, -⟩ : (∃ n, s.now = some n) ∧ ∃ n, s.ts = some n := by
    simpa [Option.isSome_iff_exists] using hs.clocked.trans hclocked
  obtain ⟨v, hv⟩ := exists_frame (hs.x ▸ hx)
  simp only [execTxIfDue, hnow, hlast]
  split
  · have hshows := hs.withPay (packed_all_isSome (hs.x ▸ hx))
    simp only [opSendReadings, hv]
    generalize packed s.x = pay at hshows ⊢
    refine opChunk_goesOn (hshows.withAgenda _) hok (if_pos (by simp [hmode, hcanst, hpc])) ?_
    rw [hl]
    exact Shape.completes_chunks rfl hmode hcanst rfl hstarted hclocked
  · exact done_endsPhase (h := { h with pc := pcWord .sleep 0 }) { hs with pc := rfl } hl (hs.pc.trans hpc) rfl hmode
      ⟨hcanst, hstarted⟩ (by decide)

theorem exec_phaseRow_goesOn {p : Phase} (hs : s.Shows h) (hl : s.agenda = []) (hpc : h.pc = pcWord p 0)
    (hb : h.boundary = true) (hp : p ≠ .stopped) : GoesOn s.pc (exec (phaseRow p) s) := by
  have hok := Shape.okNow_of_boundary hb
  obtain ⟨hmode, hn⟩ := (Shape.boundary_iff hpc).mp hb
  cases p with
  | idle => exact execPIdle_goesOn hs hl hpc hmode hn
  | canReset => exact execCanReset_goesOn hs hl hpc hmode hn
  | canCfg => exact execCanConfigure_goesOn hs hl hpc hmode hn
  | schedInit => exact execSchedInit_goesOn hs hok hl hpc hmode hn
  | stopCheck => exact execStopCheck_goesOn hs hok hl hpc hmode hn
  | sample => exact execSampleAll_goesOn hs hok hl hpc hmode hn
  | clock => exact execReadClock_goesOn hs hok hl hpc hmode hn
  | store => exact execStoreIfDue_goesOn hs hok hl hpc hmode hn
  | tx => exact execTxIfDue_goesOn hs hok hl hpc hmode hn
  | sleep => exact execLoopSleep_goesOn hs hok hl hpc hmode hn
  | shutdown => exact execShutdown_goesOn hs hok hl hpc hmode hn
  | stopped => exact absurd rfl hp
  | failed => exact hn.elim

end

/-! ### The step -/

theorem Shape.exists_phase_of_boundary {h : Shape} (hb : h.boundary = true) : ∃ p, h.pc = pcWord p 0 := by
  have hlegal := Shape.okNow_legalPc (Shape.okNow_of_boundary hb)
  simp only [Shape.boundary, Bool.and_eq_true, decide_eq_true_eq] at hb
  have hindex := hb.1.2
  unfold legalPc at hlegal
  split at hlegal
  next p hp => exact ⟨p, hindex ▸ eq_pcWord hp⟩
  next => cases hlegal

theorem decodePc_phase (p : Phase) : decodePc (pcWord p 0) = .ok (phaseRow p) := by
  rw [decodePc, if_pos (pcIndex_pcWord p (by decide)), pcPhase_pcWord p (by decide)]

theorem step_of_decodePc {s : State} {i : Instr} (hl : s.agenda = []) (hi : decodePc s.pc = .ok i) :
    step s = exec i s := by
  simp only [step, hl, hi]

theorem step_of_op {s : State} {i : Instr} {l : List Frame} (hl : s.agenda = .op i :: l) :
    step s = exec i { s with agenda := l } := by
  simp only [step, hl]

/-- The block is in an end state, which has no step (R117, R143). -/
def State.Ended (s : State) : Prop :=
  (s.pc = pcWord .stopped 0 ∧ s.agenda = [] ∧ step s = .fault .stopped) ∨
    (s.pc = pcWord .failed 0 ∧ s.agenda = [] ∧ step s = .fault .failed)

theorem ended_of_stopped {s : State} (hl : s.agenda = []) (hpc : s.pc = pcWord .stopped 0) : s.Ended :=
  .inl ⟨hpc, hl, step_of_decodePc (i := .pStopped) hl (hpc ▸ decodePc_phase .stopped)⟩

theorem ended_of_failed {s : State} (hl : s.agenda = []) (hpc : s.pc = pcWord .failed 0) : s.Ended :=
  .inr ⟨hpc, hl, step_of_decodePc (i := .pFailed) hl (hpc ▸ decodePc_phase .failed)⟩

/-- Without a fault: the phase's operation at a boundary, else the operation in progress. -/
theorem step_faultless {s : State} {h : Shape} (hs : s.Shows h) (hc : Shape.completes s.agenda h = true)
    (hset : settled s.agenda = true) : GoesOn s.pc (step s) ∨ s.Ended := by
  rcases hl : s.agenda with _ | ⟨f, l⟩
  · rw [hl] at hc
    obtain ⟨p, hp⟩ := Shape.exists_phase_of_boundary hc
    have hpc : s.pc = pcWord p 0 := hs.pc.trans hp
    by_cases hstop : p = .stopped
    · exact .inr (ended_of_stopped hl (hstop ▸ hpc))
    · rw [step_of_decodePc hl (hpc ▸ decodePc_phase p)]
      exact .inl (exec_phaseRow_goesOn hs hl hp hc hstop)
  · rw [hl] at hc hset
    cases f with
    | op i =>
      rw [step_of_op hl]
      exact .inl (exec_goesOn (hs.withAgenda l) hc)
    | act => cases hset
    | word | log => cases hc

/-- On the fault path: what follows P_SHUTDOWN with FAULT set, be it the next event or a second condition (R141). -/
theorem goesOn_of_faulted {w : BitVec 9} {t : State} (hw : w = pcWord .shutdown 0) (hf : t.fault ≠ none)
    (hr : t.refused = false) (hl : t.agenda = []) (hpc : t.pc = pcWord .shutdown 0 ∨ t.pc = pcWord .failed 0) :
    GoesOn w (.next t) := by
  obtain ⟨c, hc⟩ := Option.ne_none_iff_exists'.mp hf
  refine ⟨t, rfl, ?_, ?_, fun hstop => ?_⟩
  · rw [State.Inv, hc]
    exact ⟨hr, hpc.imp (fun h => ⟨h, .inl hl⟩) fun h => ⟨h, hl⟩⟩
  · exact hpc.elim (fun h => .inl (h.trans hw.symm)) fun h => .inr (.inr (.inr ⟨hw, h, hf⟩))
  · rw [hstop] at hpc
    exact absurd hpc (by decide)

theorem atBoundary_faulted {s : State} {k : State → Result} (hr : s.refused = false)
    (hpc : s.pc = pcWord .shutdown 0) (hk : GoesOn s.pc (k s.usedFault)) : GoesOn s.pc (atBoundary s k) := by
  have hw : s.window = .shutdown := by rw [State.window, hpc, pcPhase_pcWord .shutdown (by decide)]; rfl
  rcases hf : s.faultIn with _ | c
  · rwa [atBoundary_calm (.inr hf), State.passed, if_neg (by simp [hw])]
  · rw [atBoundary_shutdown hw hf]
    exact goesOn_of_faulted hpc (by simp [endFailed]) hr rfl (.inr rfl)

theorem execShutdown_faulted {s : State} (hf : s.fault ≠ none) (hr : s.refused = false) (hl : s.agenda = [])
    (hpc : s.pc = pcWord .shutdown 0) : GoesOn s.pc (execShutdown s) := by
  refine atBoundary_faulted hr hpc (goesOn_of_faulted hpc ?_ ?_ ?_ (.inr ?_))
  · simpa using hf
  · simpa using hr
  · simp [State.usedFault, hl]
  · simp [State.usedFault, hl, Option.isSome_iff_ne_none, hf]

theorem opLog_faulted {s : State} {c : Cause} (hf : s.fault ≠ none) (hr : s.refused = false) (hl : s.agenda = [])
    (hpc : s.pc = pcWord .shutdown 0) : GoesOn s.pc (opLog c s) := by
  refine atBoundary_faulted hr hpc (goesOn_of_faulted hpc ?_ ?_ ?_ (.inl ?_))
  · simpa using hf
  · simpa using hr
  · simp [State.usedFault, hl]
  · simp [State.usedFault, hl, hpc]

/-- With a fault: the fault path of R139, to its end. -/
theorem step_faulted {s : State} (hf : s.fault ≠ none) (hi : s.Inv) : GoesOn s.pc (step s) ∨ s.Ended := by
  obtain ⟨c, hc⟩ := Option.ne_none_iff_exists'.mp hf
  rw [State.Inv, hc] at hi
  obtain ⟨hr, ⟨hpc, hl | ⟨d, hl⟩⟩ | ⟨hpc, hl⟩⟩ := hi
  · rw [step_of_decodePc hl (hpc ▸ decodePc_phase .shutdown)]
    exact .inl (execShutdown_faulted hf hr hl hpc)
  · simp only [step, hl]
    exact .inl (opLog_faulted hf hr rfl hpc)
  · exact .inr (ended_of_failed hl hpc)

theorem step_of_inv {s : State} (hi : s.Inv) : GoesOn s.pc (step s) ∨ s.Ended := by
  rcases hf : s.fault with _ | c
  · rw [State.Inv, hf] at hi
    obtain ⟨⟨m, hm, hc⟩, hset, hr, ho⟩ := hi
    exact step_faultless (State.shows_shape hf hr ho hm) hc hset
  · exact step_faulted (by simp [hf]) hi

/-- Settles O56: the next state of a step that goes on meets the invariant. -/
theorem stepKeepsTheInvariant : Obligations.StepKeepsTheInvariant := by
  intro s t hi ht
  obtain ⟨t', h, hinv, -⟩ | ⟨-, -, h⟩ | ⟨-, -, h⟩ := step_of_inv hi
  · obtain rfl : t' = t := by simpa using h.symm.trans ht
    exact hinv
  · cases h.symm.trans ht
  · cases h.symm.trans ht

/-- Settles O57: a step goes on, or the block is in one of its two end states. -/
theorem invariantRunsOn : Obligations.InvariantRunsOn := fun _ hi =>
  (step_of_inv hi).imp_left fun ⟨t, ht, _⟩ => ⟨t, ht⟩

/-- Settles O59: a step that goes on moves pc as `MovesFrom` says. -/
theorem phaseRegisterFollowsTheTable : Obligations.PhaseRegisterFollowsTheTable := by
  intro s t hi ht
  obtain ⟨t', h, -, hmoves⟩ | ⟨-, -, h⟩ | ⟨-, -, h⟩ := step_of_inv hi
  · obtain rfl : t' = t := by simpa using h.symm.trans ht
    exact ⟨hmoves.pc, hmoves.stopped⟩
  · cases h.symm.trans ht
  · cases h.symm.trans ht

end Sys2Proof.Machine

/-! ## What the invariant implies, and where it begins (R34, R31) -/

namespace Sys2Proof.Machine

theorem busSafe_of_busMode {s : State} {m : BusMode} (h : s.busMode = some m) : s.BusSafe := by
  rw [busMode_eq_some] at h
  obtain ⟨hA, hcsnA, hcfgA⟩ := h .busA
  obtain ⟨hB, hcsnB, hcfgB⟩ := h .busB
  simp only [State.held, State.csn, State.cfgv, Bus.device] at *
  rw [State.BusSafe, hA, hB, hcsnA, hcsnB]
  cases m with
  | idle => simp [BusMode.holds, BusMode.selects]
  | acquired b | ready b => cases b <;> simp [BusMode.holds, BusMode.selects]
  | selected b => cases b <;> simp_all [BusMode.holds, BusMode.selects, BusMode.configured]

theorem busQuiet_of_idle {s : State} (h : s.busMode = some .idle) : s.BusQuiet := by
  rw [busMode_eq_some] at h
  exact ⟨(h .busA).held, (h .busB).held, (h .busA).csn, (h .busB).csn⟩

theorem Shape.idle_of_write {h h' : Shape} {k : Nat} (hi : h.write k = some h') : h.mode = .idle := by
  simp only [Shape.write, Option.ite_none_right_eq_some, Bool.and_eq_true, decide_eq_true_eq] at hi
  exact hi.1.1

theorem Shape.idle_of_read {h h' : Shape} {i : Fin 23} (hi : h.read i = some h') : h.mode = .idle := by
  simp only [Shape.read, Option.ite_none_right_eq_some, Bool.and_eq_true, decide_eq_true_eq] at hi
  exact hi.1.1.1

theorem Shape.idle_of_send {h h' : Shape} {k : Nat} (hi : h.send k = some h') : h.mode = .idle := by
  simp only [Shape.send, Option.ite_none_right_eq_some, Bool.and_eq_true, decide_eq_true_eq] at hi
  exact hi.1.1.1.1

/-- The step rows of P_CAN_CFG, P_SAMPLE and P_TX begin with both buses quiet. -/
theorem Shape.idle_of_op_row {h h' : Shape} {i : Instr} (hrow : i ∈ cfgRows ++ sampleRows ++ chunkRows)
    (hi : h.op i = some h') : h.mode = .idle := by
  cases i with
  | cfgWrite1 | cfgWrite2 | cfgWrite3 | cfgWrite4 | cfgWrite5 => exact Shape.idle_of_write hi
  | readDirect0 | readDirect1 | readDirect2 | readDirect3 | readDirect4 | readDirect5 | readDirect6 | readMuxed7
  | readMuxed8 | readMuxed9 | readMuxed10 | readMuxed11 | readMuxed12 | readMuxed13 | readMuxed14 | readMuxed15
  | readMuxed16 | readMuxed17 | readMuxed18 | readMuxed19 | readMuxed20 | readMuxed21 | readMuxed22 =>
    exact Shape.idle_of_read hi
  | sendChunk0 | sendChunk1 | sendChunk2 | sendChunk3 | sendChunk4 | sendChunk5 => exact Shape.idle_of_send hi
  | acq | cfg | csl | wait | xfer | csh | rel | burst | readAdc | canRts0Cmd =>
    simp [cfgRows, sampleRows, chunkRows] at hrow
  | _ => cases hi

theorem Shape.operational_of_okNow {h : Shape} {p : Phase} (hok : h.okNow = true) (hp : pcPhase h.pc = some p)
    (hcode : 3 ≤ phaseCode p) : h.canst = .operational := by
  simp only [Shape.okNow, hp, Bool.and_eq_true] at hok
  have hphase := hok.2
  cases p <;> simp_all [phaseCode]

theorem Shape.okNow_of_completes {l : List Frame} {h : Shape} (hset : settled l = true)
    (hc : Shape.completes l h = true) : h.okNow = true := by
  cases l with
  | nil => exact Shape.okNow_of_boundary hc
  | cons f l =>
    cases f with
    | op i => exact (Shape.completes_op.mp hc).1
    | act => cases hset
    | word | log => cases hc

/-- Settles O58: the bus registers show a mode, and what is in progress goes through. -/
theorem invariantGivesTheSpecsInvariants : Obligations.InvariantGivesTheSpecsInvariants := by
  intro s hi hf
  rw [State.Inv, hf] at hi
  obtain ⟨⟨m, hm, hc⟩, hset, -, -, -, -, hstore, htx⟩ := hi
  refine ⟨busSafe_of_busMode hm, fun hl => ?_, fun i rest hl hrow => ?_, fun p hp hcode => ?_, hstore, htx⟩
  · rw [hl] at hc
    obtain ⟨p, hpc⟩ := Shape.exists_phase_of_boundary hc
    obtain rfl : m = .idle := ((Shape.boundary_iff hpc).mp hc).1
    exact busQuiet_of_idle hm
  · rw [hl] at hc
    obtain ⟨-, h', hop, -⟩ := Shape.completes_op.mp hc
    obtain rfl : m = .idle := Shape.idle_of_op_row hrow hop
    exact busQuiet_of_idle hm
  · exact Shape.operational_of_okNow (Shape.okNow_of_completes hset hc) hp hcode

/-- Settles O55: at reset nothing is in progress and P_IDLE needs the clock registers unwritten, which they are. -/
theorem invariantHoldsAtReset : Obligations.InvariantHoldsAtReset := by
  refine ⟨⟨.idle, rfl, ?_⟩, rfl, rfl, ?_⟩
  · exact (Shape.boundary_iff (p := .idle) rfl).mpr ⟨rfl, rfl⟩
  · simp [State.ClockOrdered, State.reset]

/-! ## Reset (R31, R153) -/

theorem atReset_resetPort (s : State) : s.resetPort.AtReset := by
  have hpc : (0 : BitVec 9) = pcWord .idle 0 := by decide
  simp [State.AtReset, State.resetPort, State.reset, State.payload, ← hpc]

/-- Settles O60: the reset state is what the reset port makes of itself. -/
theorem resetPutsTheTable : Obligations.ResetPutsTheTable := ⟨atReset_resetPort State.reset, atReset_resetPort⟩

/-! ## Entry by RUN (R18, R155) -/

/-- Settles O39: the three clauses are the branches of RUN and of P_IDLE. -/
theorem runIsTheOnlyEntry : Obligations.RunIsTheOnlyEntry := by
  refine fun s => ⟨fun hpc => ?_, fun hstart => ⟨s.usedStart.env, ?_⟩, fun hstart => ⟨s.usedStart.env, ?_⟩⟩
  · exact if_pos hpc
  · rw [exec, execPIdle, hstart]
    rfl
  · rw [exec, execPIdle, hstart]
    rfl

/-! ## The step and the decoder (R17) -/

theorem index_of_stepRows {p : Phase} {k : Nat} {i : Instr} (h : (stepRows p)[k]? = some i) :
    k ≤ lastIndex p ∧ k < 32 := by
  have hk := (List.getElem?_eq_some_iff.mp h).1
  cases p <;> simp_all [stepRows, cfgRows, sampleRows, chunkRows, lastIndex] <;> omega

theorem decodePc_stepRow {p : Phase} {k : Nat} {i : Instr} (hk : 0 < k) (hi : (stepRows p)[k]? = some i) :
    decodePc (pcWord p k) = .ok i := by
  obtain ⟨hlast, hlt⟩ := index_of_stepRows hi
  have hphase := pcPhase_pcWord p hlt
  have hindex := pcIndex_pcWord p hlt
  rw [pcPhase] at hphase
  rw [pcIndex] at hindex
  simp [decodePc, pcIndex, hindex, hk.ne', decodePhaseWord, hphase, hlast, hi]

theorem legalPc_false_iff {w : BitVec 9} : legalPc w = false ↔ ∃ e, decodePc w = .error e := by
  rw [legalPc, decodePc, decodePhaseWord, ← pcPhase.eq_def, ← pcIndex.eq_def]
  cases pcPhase w with
  | none => by_cases h0 : pcIndex w = 0 <;> simp [h0]
  | some p =>
    by_cases h0 : pcIndex w = 0
    · simp [h0]
    · by_cases hlast : pcIndex w ≤ lastIndex p
      · simp only [h0, hlast, if_true, if_false]
        split <;> simp
      · simp [h0, hlast]

theorem step_of_decodePc_error {s : State} {e : DecodeError} (hl : s.agenda = []) (he : decodePc s.pc = .error e) :
    step s = .refused (.illegalPhase e) := by
  simp only [step, hl, he]

/-- Settles O8: the cases of `step`, and what `decodePc` reads at each value of the phase register. -/
theorem stepRunsTheDecodedOperation : Obligations.StepRunsTheDecodedOperation :=
  ⟨fun _ _ => step_of_decodePc, fun _ _ _ => step_of_op, decodePc_phase, fun _ _ _ => decodePc_stepRow,
    fun _ => legalPc_false_iff, fun _ _ => step_of_decodePc_error⟩

/-! ## Operations whose requirement fails (R15, R61, R77 to R83) -/

theorem execStoreIfDue_unclocked {s : State} (h : s.now = none) : execStoreIfDue s = .fault .unwritten := by
  simp only [execStoreIfDue, h]

theorem execTxIfDue_unclocked {s : State} (h : s.now = none) : execTxIfDue s = .fault .unwritten := by
  simp only [execTxIfDue, h]

theorem execStoreIfDue_unstarted {s : State} (h : s.lastStore = none) : execStoreIfDue s = .fault .unwritten := by
  cases hn : s.now <;> simp only [execStoreIfDue, h, hn]

theorem execTxIfDue_unstarted {s : State} (h : s.lastTx = none) : execTxIfDue s = .fault .unwritten := by
  cases hn : s.now <;> simp only [execTxIfDue, h, hn]

theorem execStoreIfDue_due_unwritten {s : State} {now last : Nat} (hn : s.now = some now) (hl : s.lastStore = some last)
    (hd : 1000000 ≤ now - last) (h : s.ts = none ∨ s.frame = none) : execStoreIfDue s = .fault .unwritten := by
  have hdue : storeDue now last = true := decide_eq_true hd
  simp only [execStoreIfDue, hn, hl, hdue, if_true]
  obtain h | h := h
  · simp only [h]
  · cases hts : s.ts <;> simp only [h]

theorem execTxIfDue_due {s : State} {now last : Nat} (hn : s.now = some now) (hl : s.lastTx = some last)
    (hd : 500000 ≤ now - last) : execTxIfDue s = opSendReadings [.act .lastTx] s := by
  have hdue : txDue now last = true := decide_eq_true hd
  simp only [execTxIfDue, hn, hl, hdue, if_true]

theorem opSendReadings_unwritten {s : State} {after : List Frame} (h : s.frame = none) :
    opSendReadings after s = .fault .unwritten := by
  simp only [opSendReadings, h]

theorem opChunk_unwritten {s : State} {k : Fin 6} (hc : chunk s.payload k.val = none) (ho : s.canst = .operational) :
    opChunk k s = .fault .unwritten := by
  simp only [opChunk, ho, hc, ne_eq, not_true_eq_false, if_false]

theorem exec_chunkRow {s : State} {k : Fin 6} {i : Instr} (hi : chunkRows[k.val]? = some i) : exec i s = opChunk k s := by
  fin_cases k <;> cases hi <;> rfl

/-- Settles O16: each stop is the branch of its operation where the requirement fails. -/
theorem unmetRequirementsStop : Obligations.UnmetRequirementsStop := by
  refine fun s bus d tx => ⟨fun h => ?_, fun h => ?_, fun h => ?_, fun h => ?_, rfl, fun setup l h => ?_, fun id l h => ?_,
    fun h => ⟨?_, opSendReadings_unwritten h⟩,
    fun k h => ⟨?_, fun i hi ho => (exec_chunkRow hi).trans (opChunk_unwritten h ho)⟩,
    fun h => ⟨execStoreIfDue_unclocked h, execTxIfDue_unclocked h⟩, execStoreIfDue_unstarted, execTxIfDue_unstarted,
    fun now last => execStoreIfDue_due_unwritten, fun now last hn hl hd h =>
      (execTxIfDue_due hn hl hd).trans (opSendReadings_unwritten h)⟩
  · exact if_neg (by simp [h])
  · exact if_neg (by simpa using h)
  · exact if_neg (by simpa using h)
  · exact if_neg (by simpa using h)
  · exact if_neg (by simpa [Instr.wellFormed, imp_iff_not_or] using h)
  · exact if_neg fun hw => absurd (of_decide_eq_true hw) (Nat.not_le.mpr h)
  · simp only [exec, execPack, h]
  · simp only [exec, execSplit, h]

end Sys2Proof.Machine

/-! ## FAULT, REFUSED and the parameters (R32, R4)

Three updates alone write the two marks, and each sets one: `takeLoopFault`, `endFailed` and `refuse`. No update writes the
parameters. -/

namespace Sys2Proof.Machine

/-- What no step may undo: whether FAULT is set, REFUSED, and the parameters. -/
structure Marks where
  fault : Bool
  refused : Bool
  params : Config.Params

def State.marks (s : State) : Marks := ⟨s.fault.isSome, s.refused, s.params⟩

/-- Marks that are set stay set, and the parameters are the same. -/
structure Marks.Stay (m n : Marks) : Prop where
  fault : m.fault = true → n.fault = true
  refused : m.refused = true → n.refused = true
  params : n.params = m.params

/-- A next state, where the result is one, keeps the marks. -/
def KeepsMarks (r : Result) (m : Marks) : Prop := ∀ t, r = .next t → m.Stay t.marks

@[simp] theorem State.passed_marks (s : State) : s.passed.marks = s.marks := by simp [State.marks]

@[simp] theorem settle_marks (l : List Frame) (s : State) : (settle l s).marks = s.marks := by simp [State.marks]

@[simp] theorem State.setHeld_marks (s : State) (v : Bool) (bus : Bus) : (s.setHeld v bus).marks = s.marks := by
  simp [State.marks]

@[simp] theorem State.setCfgv_marks (s : State) (v : Bool) (bus : Bus) : (s.setCfgv v bus).marks = s.marks := by
  simp [State.marks]

@[simp] theorem State.setCsn_marks (s : State) (v : Bool) (d : Device) : (s.setCsn v d).marks = s.marks := by
  simp [State.marks]

@[simp] theorem State.usedGrant_marks (s : State) (bus : Bus) : (s.usedGrant bus).marks = s.marks := by
  simp [State.marks]

/-! ### The ways a meaning ends -/

theorem keepsMarks_next {t : State} {m : Marks} (h : t.marks = m) : KeepsMarks (.next t) m := by
  rintro _ ⟨⟩
  subst h
  exact ⟨id, id, rfl⟩

theorem keepsMarks_fault (f : Fault) (m : Marks) : KeepsMarks (.fault f) m := fun _ h => by cases h

theorem keepsMarks_refused (r : Refusal) (m : Marks) : KeepsMarks (.refused r) m := fun _ h => by cases h

theorem done_keepsMarks (s : State) : KeepsMarks (done s) s.marks := keepsMarks_next (settle_marks s.agenda s)

theorem event_keepsMarks (s : State) (e : Event) : KeepsMarks (event s e) s.marks := done_keepsMarks (s.emit e)

theorem refuse_keepsMarks (s : State) : KeepsMarks (refuse s) s.marks := by
  rintro _ ⟨⟩
  exact ⟨id, fun _ => rfl, rfl⟩

theorem takeLoopFault_keepsMarks (c : Cause) (s : State) : KeepsMarks (.next (takeLoopFault c s)) s.marks := by
  rintro _ ⟨⟩
  exact ⟨fun _ => rfl, id, rfl⟩

theorem atBoundary_keepsMarks (s : State) {k : State → Result} (hk : ∀ u, KeepsMarks (k u) u.marks) :
    KeepsMarks (atBoundary s k) s.marks := by
  intro t h
  obtain ⟨-, hpassed⟩ | ⟨c, -, -, rfl⟩ | ⟨c, -, -, rfl⟩ := atBoundary_next h
  · simpa using hk s.passed t hpassed
  · exact takeLoopFault_keepsMarks _ s.usedFault _ rfl
  · exact ⟨fun _ => rfl, id, rfl⟩

/-! ### The primitives and the burst -/

theorem opAcquire_keepsMarks (bus : Bus) (s : State) : KeepsMarks (opAcquire bus s) s.marks := by
  refine atBoundary_keepsMarks s fun u => ?_
  split
  · have h := event_keepsMarks { ((u.usedGrant bus).setHeld true bus).setCfgv false bus with rx := [] } (.acq bus)
    simpa [State.marks] using h
  · exact keepsMarks_next (u.usedGrant_marks bus)

theorem opConfigure_keepsMarks (bus : Bus) (s : State) : KeepsMarks (opConfigure bus s) s.marks := by
  unfold opConfigure
  split
  · exact atBoundary_keepsMarks s fun u => by simpa using event_keepsMarks (u.setCfgv true bus) _
  · exact keepsMarks_fault _ _

theorem opCsLow_keepsMarks (d : Device) (s : State) : KeepsMarks (opCsLow d s) s.marks := by
  unfold opCsLow
  split
  · exact atBoundary_keepsMarks s fun u => by simpa using event_keepsMarks (u.setCsn false d) _
  · exact keepsMarks_fault _ _

theorem opWait_keepsMarks (n : Nat) (s : State) : KeepsMarks (opWait n s) s.marks := by
  unfold opWait
  split
  · exact atBoundary_keepsMarks s fun _ => event_keepsMarks _ _
  · exact keepsMarks_fault _ _

theorem opXfer_keepsMarks (bus : Bus) (tx : Byte) (s : State) : KeepsMarks (opXfer bus tx s) s.marks := by
  unfold opXfer
  split
  · exact atBoundary_keepsMarks s fun _ => event_keepsMarks _ _
  · exact keepsMarks_fault _ _

theorem opCsHigh_keepsMarks (d : Device) (s : State) : KeepsMarks (opCsHigh d s) s.marks :=
  atBoundary_keepsMarks s fun u => by simpa using event_keepsMarks (u.setCsn true d) _

theorem opRelease_keepsMarks (bus : Bus) (s : State) : KeepsMarks (opRelease bus s) s.marks := by
  unfold opRelease
  split
  · exact atBoundary_keepsMarks s fun u => by simpa using event_keepsMarks (u.setHeld false bus) _
  · exact keepsMarks_fault _ _

theorem opSetMux_keepsMarks (sel : BitVec 4) (s : State) : KeepsMarks (opSetMux sel s) s.marks :=
  atBoundary_keepsMarks s fun _ => event_keepsMarks _ _

theorem opBurst_keepsMarks (bus : Bus) (d : Device) (setup : Nat) (tx : List Byte) (s : State) :
    KeepsMarks (opBurst bus d setup tx s) s.marks :=
  opAcquire_keepsMarks bus (s.push _)

theorem execBurst_keepsMarks (bus : Bus) (d : Device) (setup : Nat) (tx : List Byte) (s : State) :
    KeepsMarks (execBurst bus d setup tx s) s.marks := by
  unfold execBurst
  split
  · exact opBurst_keepsMarks bus d setup tx s
  · exact keepsMarks_fault _ _

/-! ### The CAN Link Driver -/

theorem opLoadTx0_keepsMarks (id : BitVec 11) (data : List Byte) (after : List Frame) (s : State) :
    KeepsMarks (opLoadTx0 id data after s) s.marks := by
  unfold opLoadTx0
  split
  · exact opBurst_keepsMarks _ _ _ _ (s.push _)
  · exact opBurst_keepsMarks _ _ _ _ (s.push _)

theorem execCanLoadTx0Cmd_keepsMarks (id : BitVec 11) (data : List Byte) (s : State) :
    KeepsMarks (execCanLoadTx0Cmd id data s) s.marks := by
  unfold execCanLoadTx0Cmd
  split
  · exact opLoadTx0_keepsMarks id data [] s
  · exact keepsMarks_fault _ _

theorem opSendFrame_keepsMarks (id : BitVec 16) (data : List Byte) (after : List Frame)
    {onError : TxError → State → Result} (herr : ∀ e u, KeepsMarks (onError e u) u.marks) (s : State) :
    KeepsMarks (opSendFrame id data after onError s) s.marks := by
  unfold opSendFrame
  split
  · exact refuse_keepsMarks s
  · split
    · exact herr _ s
    · split
      · exact herr _ s
      · exact opLoadTx0_keepsMarks _ _ _ s

theorem opCanReset_keepsMarks (s : State) : KeepsMarks (opCanReset s) s.marks :=
  opBurst_keepsMarks _ _ _ _ (State.push { s with canst := .resetting } _)

theorem opCfgWrite_keepsMarks (k : Fin 5) (s : State) : KeepsMarks (opCfgWrite k s) s.marks :=
  opBurst_keepsMarks _ _ _ _ ((s.setPc .canCfg k.val).push _)

/-! ### The Analog Sampler and frame splitting -/

theorem opReadDirect_keepsMarks (i : Fin 7) (s : State) : KeepsMarks (opReadDirect i s) s.marks :=
  opBurst_keepsMarks _ _ _ _ ((s.setPc .sample i.val).push _)

theorem opReadMuxed_keepsMarks (j : Fin 16) (s : State) : KeepsMarks (opReadMuxed j s) s.marks :=
  opSetMux_keepsMarks _ ((s.setPc .sample (j.val + 7)).push _)

theorem execPack_keepsMarks (s : State) : KeepsMarks (execPack s) s.marks := by
  unfold execPack
  generalize packed s.x = pay
  split
  · exact keepsMarks_fault _ _
  · exact done_keepsMarks _

theorem execSplit_keepsMarks (k : Fin 6) (s : State) : KeepsMarks (execSplit k s) s.marks := by
  unfold execSplit
  split
  · exact keepsMarks_fault _ _
  · exact done_keepsMarks _

theorem opChunk_keepsMarks (k : Fin 6) (s : State) : KeepsMarks (opChunk k s) s.marks := by
  unfold opChunk
  split
  · exact refuse_keepsMarks (s.setPc .tx k.val)
  · split
    · exact keepsMarks_fault _ _
    · exact opSendFrame_keepsMarks _ _ _ (fun e => takeLoopFault_keepsMarks (.txError e)) (s.setPc .tx k.val)

theorem opSendReadings_keepsMarks (after : List Frame) (s : State) :
    KeepsMarks (opSendReadings after s) s.marks := by
  unfold opSendReadings
  generalize packed s.x = pay
  split
  · exact keepsMarks_fault _ _
  · exact opChunk_keepsMarks 0 (State.push { s with pay := pay, payLive := true } _)

/-! ### The Cyclic Scheduler -/

theorem execRun_keepsMarks (s : State) : KeepsMarks (execRun s) s.marks := by
  unfold execRun
  split
  · exact done_keepsMarks _
  · exact keepsMarks_fault _ _

theorem execSchedInit_keepsMarks (s : State) : KeepsMarks (execSchedInit s) s.marks :=
  atBoundary_keepsMarks s fun _ => event_keepsMarks _ _

theorem execStopCheck_keepsMarks (s : State) : KeepsMarks (execStopCheck s) s.marks :=
  atBoundary_keepsMarks s fun _ => event_keepsMarks _ _

theorem execReadClock_keepsMarks (s : State) : KeepsMarks (execReadClock s) s.marks :=
  atBoundary_keepsMarks s fun _ => event_keepsMarks _ _

theorem execShutdown_keepsMarks (s : State) : KeepsMarks (execShutdown s) s.marks :=
  atBoundary_keepsMarks s fun _ => event_keepsMarks _ _

theorem opLog_keepsMarks (c : Cause) (s : State) : KeepsMarks (opLog c s) s.marks :=
  atBoundary_keepsMarks s fun _ => event_keepsMarks _ _

theorem execStoreIfDue_keepsMarks (s : State) : KeepsMarks (execStoreIfDue s) s.marks := by
  unfold execStoreIfDue
  split
  · split
    · split
      · exact atBoundary_keepsMarks s fun _ => event_keepsMarks _ _
      · exact keepsMarks_fault _ _
    · exact done_keepsMarks _
  · exact keepsMarks_fault _ _

theorem execTxIfDue_keepsMarks (s : State) : KeepsMarks (execTxIfDue s) s.marks := by
  unfold execTxIfDue
  split
  · split
    · exact opSendReadings_keepsMarks _ s
    · exact done_keepsMarks _
  · exact keepsMarks_fault _ _

/-! ### Every instruction, and the step -/

theorem exec_keepsMarks (i : Instr) (s : State) : KeepsMarks (exec i s) s.marks := by
  cases i with
  | adcCmd | adcCmdA0 | adcCmdA1 | adcCmdA2 | adcCmdA3 | adcCmdA4 | adcCmdA5 | adcCmdA6 | adcCmdA7 | canResetCmd
  | canRts0Cmd | canWriteCmd | canWriteCmdW1 | canWriteCmdW2 | canWriteCmdW3 | canWriteCmdW4 | canWriteCmdW5 | readAdc =>
    exact opBurst_keepsMarks _ _ _ _ (s.push _)
  | adcAnswer | rd16Word => exact done_keepsMarks _
  | muxPattern sel | muxSet sel => exact opSetMux_keepsMarks sel s
  | canLoadTx0Cmd id data => exact execCanLoadTx0Cmd_keepsMarks id data s
  | canReset => exact opCanReset_keepsMarks s
  | canInit => exact opCanReset_keepsMarks ((s.setPc .canReset 0).push _)
  | canConfigure => exact opCfgWrite_keepsMarks 0 (State.push { s with canst := .configuring } _)
  | cfgWrite1 | cfgWrite2 | cfgWrite3 | cfgWrite4 | cfgWrite5 => exact opCfgWrite_keepsMarks _ s
  | sendFrame id data => exact opSendFrame_keepsMarks id data [] (fun e u => done_keepsMarks { u with ret := .txError e }) s
  | sampleAll => exact opReadDirect_keepsMarks 0 (State.push { s with x := Vector.replicate 23 none } _)
  | readDirect0 | readDirect1 | readDirect2 | readDirect3 | readDirect4 | readDirect5 | readDirect6 =>
    exact opReadDirect_keepsMarks _ s
  | readMuxed7 | readMuxed8 | readMuxed9 | readMuxed10 | readMuxed11 | readMuxed12 | readMuxed13 | readMuxed14
  | readMuxed15 | readMuxed16 | readMuxed17 | readMuxed18 | readMuxed19 | readMuxed20 | readMuxed21 | readMuxed22 =>
    exact opReadMuxed_keepsMarks _ s
  | pack => exact execPack_keepsMarks s
  | split k => exact execSplit_keepsMarks k s
  | sendChunk0 | sendChunk1 | sendChunk2 | sendChunk3 | sendChunk4 | sendChunk5 => exact opChunk_keepsMarks _ s
  | sendReadings => exact opSendReadings_keepsMarks [] s
  | acq bus => exact opAcquire_keepsMarks bus s
  | cfg bus => exact opConfigure_keepsMarks bus s
  | csl d => exact opCsLow_keepsMarks d s
  | wait n => exact opWait_keepsMarks n s
  | xfer bus tx => exact opXfer_keepsMarks bus tx s
  | csh d => exact opCsHigh_keepsMarks d s
  | rel bus => exact opRelease_keepsMarks bus s
  | burst bus d setup tx => exact execBurst_keepsMarks bus d setup tx s
  | pIdle => exact keepsMarks_next rfl
  | run => exact execRun_keepsMarks s
  | schedInit => exact execSchedInit_keepsMarks s
  | stopCheck => exact execStopCheck_keepsMarks s
  | readClock => exact execReadClock_keepsMarks s
  | shutdown => exact execShutdown_keepsMarks s
  | storeIfDue => exact execStoreIfDue_keepsMarks s
  | txIfDue => exact execTxIfDue_keepsMarks s
  | loopSleep => exact opWait_keepsMarks Config.tLoopSleep (s.push _)
  | pStopped | pFailed => exact keepsMarks_fault _ _

theorem step_keepsMarks (s : State) : KeepsMarks (step s) s.marks := by
  unfold step
  split
  case h_1 nbits w rest _ =>
    split
    · exact exec_keepsMarks _ { s with agenda := rest }
    · exact keepsMarks_refused _ _
  case h_2 i rest _ => exact exec_keepsMarks i { s with agenda := rest }
  case h_3 c rest _ => exact opLog_keepsMarks c { s with agenda := rest }
  case h_4 a rest _ => exact keepsMarks_next (by simp [State.marks])
  case h_5 =>
    split
    · exact exec_keepsMarks _ s
    · exact keepsMarks_refused _ _

/-- Settles O51: every update keeps the marks, through `exec` to `step`. -/
theorem marksAndParametersStay : Obligations.MarksAndParametersStay := by
  intro s t h
  obtain ⟨hfault, hrefused, hparams⟩ := step_keepsMarks s t h
  simp only [State.marks, Option.isSome_iff_ne_none] at hfault
  exact ⟨hfault, hrefused, hparams⟩

end Sys2Proof.Machine

/-! ## A burst from its first event to its last (R83, R84)

Each primitive is one step where no condition is signalled; the chain of them is the burst. `State.Spends` says which draws
have been used, so that one burst can follow another. -/

namespace Sys2Proof.Machine

/-! ### The draws a run uses -/

/-- The draws of the lock of a bus still to come. -/
def Env.grants (e : Env) : Bus → List Bool
  | .busA => e.grantA
  | .busB => e.grantB

/-- From `s`, `f` boundaries have been passed, `g` requests of `bus` answered and `r` bytes received, and `e` is left. -/
structure State.Spends (s : State) (bus : Bus) (e : Env) (f g r : Nat) : Prop where
  fault : s.window ≠ .outside → e.fault = s.env.fault.drop f
  grants : e.grants bus = (s.env.grants bus).drop g
  rx : e.rx = s.env.rx.drop r

section
variable {s u : State} {bus : Bus} {e : Env} {f g r f' g' r' n : Nat}

theorem State.Spends.trans (h : s.Spends bus u.env f g r) (hpc : u.pc = s.pc) (h' : u.Spends bus e f' g' r') :
    s.Spends bus e (f + f') (g + g') (r + r') where
  fault hw := by
    have hw' : u.window ≠ .outside := by rwa [State.window, hpc]
    rw [h'.fault hw', h.fault hw, List.drop_drop]
  grants := by rw [h'.grants, h.grants, List.drop_drop]
  rx := by rw [h'.rx, h.rx, List.drop_drop]

theorem replicate_prefix_drop {α : Type} {a : α} {l : List α} (h : List.replicate (f + n) a <+: l) :
    List.replicate n a <+: l.drop f := by
  obtain ⟨m, rfl⟩ := h
  refine ⟨m, ?_⟩
  rw [← List.replicate_append_replicate, List.append_assoc, List.drop_left' List.length_replicate]

theorem State.Spends.calmFor (h : s.Spends bus u.env f g r) (hpc : u.pc = s.pc) (hc : s.CalmFor (f + n)) : u.CalmFor n := by
  by_cases hw : s.window = .outside
  · exact .inl (by rwa [State.window, hpc])
  · refine .inr ?_
    rw [State.NoFault, h.fault hw]
    exact replicate_prefix_drop (hc.resolve_left hw)

theorem grants_iff : s.Grants n bus ↔ List.replicate n true <+: s.env.grants bus := by cases bus <;> rfl

theorem State.Spends.grants_of (h : s.Spends bus u.env f g r) (hg : s.Grants (g + n) bus) : u.Grants n bus := by
  rw [grants_iff] at hg ⊢
  rw [h.grants]
  exact replicate_prefix_drop hg

theorem State.Spends.answers {rs rs' : List Byte} (h : s.Spends bus u.env f g rs.length) (ha : s.Answers (rs ++ rs')) :
    u.Answers rs' := by
  obtain ⟨m, hm⟩ := ha
  exact ⟨m, by rw [h.rx, ← hm]; simp⟩

theorem State.CalmFor.mono {m : Nat} (h : s.CalmFor n) (hmn : m ≤ n) : s.CalmFor m := by
  refine h.imp_right fun hf => ?_
  rw [State.NoFault, ← Nat.add_sub_cancel' hmn, List.replicate_add] at hf
  exact (List.prefix_append _ _).trans hf

theorem State.CalmFor.calm (h : s.CalmFor (n + 1)) : s.Calm := by
  refine h.imp_right fun ⟨l, hl⟩ => ?_
  rw [State.faultIn, ← hl]
  rfl

theorem grantIn_of_grants (h : s.Grants (n + 1) bus) : s.passed.grantIn bus = true := by
  rw [← State.grantAt_zero]
  cases bus with
  | busA =>
    obtain ⟨l, hl⟩ := h
    rw [State.grantAt, ← hl]
    rfl
  | busB =>
    obtain ⟨l, hl⟩ := h
    rw [State.grantAt, ← hl]
    rfl

theorem passed_eq (s : State) : s.passed = { s with env := s.passed.env } := by
  unfold State.passed
  split <;> rfl

theorem spends_passed (s : State) (bus : Bus) : s.Spends bus s.passed.env 1 0 0 := by
  unfold State.passed
  split
  next hw => exact ⟨fun h => absurd hw h, rfl, rfl⟩
  next => exact ⟨fun _ => (List.drop_one).symm, by cases bus <;> rfl, rfl⟩

theorem rxIn_of_answers {b : Byte} {rs : List Byte} (h : s.Answers (b :: rs)) : s.passed.rxIn = b := by
  obtain ⟨l, hl⟩ := h
  have hrx : s.passed.env.rx = s.env.rx := (spends_passed s .busA).rx
  rw [State.rxIn, hrx, ← hl]
  rfl

/-! ### One primitive, one step -/

theorem exec_acq (hc : s.Calm) (hh : s.held bus = false) (hg : s.Grants 1 bus) :
    ∃ e, s.Spends bus e 1 1 0 ∧ exec (.acq bus) s = .next (settle s.agenda
      { (s.setHeld true bus).setCfgv false bus with env := e, rx := [], trace := s.trace ++ [.acq bus] }) := by
  have hpassed := spends_passed s bus
  have h := opAcquire_calm (bus := bus) hc
  rw [grantIn_of_grants hg, hh, Bool.not_false, Bool.and_true, if_pos rfl] at h
  refine ⟨(s.passed.usedGrant bus).env, ?_, ?_⟩
  · refine hpassed.trans (f' := 0) (g' := 1) (r' := 0) (by simp) ?_
    cases bus <;> exact ⟨fun _ => rfl, List.drop_one.symm, rfl⟩
  · have hused : s.passed.usedGrant bus = { s with env := (s.passed.usedGrant bus).env } := by
      unfold State.passed
      split <;> cases bus <;> rfl
    rw [hused] at h
    generalize (s.passed.usedGrant bus).env = e at h ⊢
    cases bus <;> exact h

theorem exec_cfg (hc : s.Calm) (hh : s.held bus = true) :
    ∃ e, s.Spends bus e 1 0 0 ∧ exec (.cfg bus) s = .next (settle s.agenda
      { s.setCfgv true bus with
        env := e, trace := s.trace ++ [.cfg bus (busRate s.params bus).1 (busRate s.params bus).2] }) := by
  refine ⟨s.passed.env, spends_passed s bus, ?_⟩
  have h := opConfigure_calm hc hh
  rw [passed_eq s] at h
  cases bus <;> exact h

theorem exec_csl {d : Device} (hc : s.Calm) (hh : s.held d.bus = true) (hv : s.cfgv d.bus = true) :
    ∃ e, s.Spends bus e 1 0 0 ∧ exec (.csl d) s = .next (settle s.agenda
      { s.setCsn false d with env := e, trace := s.trace ++ [.csl d] }) := by
  refine ⟨s.passed.env, spends_passed s bus, ?_⟩
  have h := opCsLow_calm hc hh hv
  rw [passed_eq s] at h
  cases d <;> exact h

theorem exec_wait (hc : s.Calm) (hn : 0 < n) :
    ∃ e, s.Spends bus e 1 0 0 ∧ exec (.wait n) s = .next (settle s.agenda
      { s with env := e, waited := s.waited + n, trace := s.trace ++ [.wait n] }) := by
  refine ⟨s.passed.env, spends_passed s bus, ?_⟩
  have h := opWait_calm hc hn
  rw [passed_eq s] at h
  exact h

theorem exec_xfer {tx b : Byte} {rs : List Byte} (hc : s.Calm) (hh : s.held bus = true) (hv : s.cfgv bus = true)
    (hs : s.csn bus.device = false) (ha : s.Answers (b :: rs)) :
    ∃ e, s.Spends bus e 1 0 1 ∧ exec (.xfer bus tx) s = .next (settle s.agenda
      { s with env := e, rx := s.rx ++ [b], trace := s.trace ++ [.xfer bus tx b] }) := by
  refine ⟨s.passed.usedRx.env, ?_, ?_⟩
  · refine (spends_passed s bus).trans (f' := 0) (g' := 0) (r' := 1) (by simp) ?_
    exact ⟨fun _ => rfl, by cases bus <;> rfl, List.drop_one.symm⟩
  · have h := opXfer_calm (tx := tx) hc hh hv hs
    rw [rxIn_of_answers ha, passed_eq s] at h
    exact h

theorem exec_csh {d : Device} (hc : s.Calm) :
    ∃ e, s.Spends bus e 1 0 0 ∧ exec (.csh d) s = .next (settle s.agenda
      { s.setCsn true d with env := e, trace := s.trace ++ [.csh d] }) := by
  refine ⟨s.passed.env, spends_passed s bus, ?_⟩
  have h := opCsHigh_calm (d := d) hc
  rw [passed_eq s] at h
  cases d <;> exact h

theorem exec_rel (hc : s.Calm) (hh : s.held bus = true) (hs : s.csn bus.device = true) :
    ∃ e, s.Spends bus e 1 0 0 ∧ exec (.rel bus) s = .next (settle s.agenda
      { s.setHeld false bus with env := e, trace := s.trace ++ [.rel bus] }) := by
  refine ⟨s.passed.env, spends_passed s bus, ?_⟩
  have h := opRelease_calm hc hh hs
  rw [passed_eq s] at h
  cases bus <;> exact h

/-! ### The exchanges and the burst -/

theorem run_cons {i : Instr} {l : List Frame} {t v : State} (h : exec i { s with agenda := l } = .next t)
    (hr : Host.Core.run Sys2Proof.core n t = .next v) :
    Host.Core.run Sys2Proof.core (n + 1) { s with agenda := .op i :: l } = .next v := by
  have hstep : step { s with agenda := .op i :: l } = .next t := h
  simp only [Host.Core.run, Sys2Proof.core, hstep]
  exact hr

theorem settle_of_settled {l : List Frame} (hl : settled l = true) (t : State) : settle l t = { t with agenda := l } := by
  cases l with
  | nil => rfl
  | cons f l =>
    cases f with
    | act => cases hl
    | op | word | log => rfl

theorem settled_xfers {l : List Frame} (hl : settled l = true) (tx : List Byte) :
    settled (tx.map (fun b => .op (.xfer bus b)) ++ l) = true := by
  cases tx with
  | nil => exact hl
  | cons => rfl

/-- The exchanges of a burst. -/
theorem run_xfers {tx rs : List Byte} {l : List Frame} (hl : settled l = true) (hlen : rs.length = tx.length)
    (hc : s.CalmFor tx.length) (hh : s.held bus = true) (hv : s.cfgv bus = true) (hs : s.csn bus.device = false)
    (ha : s.Answers rs) :
    ∃ e, s.Spends bus e tx.length 0 rs.length ∧
      Host.Core.run Sys2Proof.core tx.length
          { s with agenda := tx.map (fun b => .op (.xfer bus b)) ++ l } =
        .next { s with env := e, rx := s.rx ++ rs, agenda := l,
                       trace := s.trace ++ List.zipWith (fun t r => .xfer bus t r) tx rs } := by
  induction tx generalizing s rs with
  | nil =>
    obtain rfl := List.length_eq_zero_iff.mp hlen
    exact ⟨s.env, ⟨fun _ => rfl, rfl, rfl⟩, by simp [Host.Core.run]⟩
  | cons t tx ih =>
    obtain ⟨b, rs, rfl⟩ := List.exists_cons_of_length_eq_add_one hlen
    let rest := tx.map (fun b => Frame.op (.xfer bus b)) ++ l
    obtain ⟨e₁, hspent, hexec⟩ := exec_xfer (s := { s with agenda := rest }) (tx := t) hc.calm hh hv hs ha
    rw [settle_of_settled (settled_xfers hl tx)] at hexec
    let u : State := { s with env := e₁, rx := s.rx ++ [b], trace := s.trace ++ [.xfer bus t b] }
    have hspent : s.Spends bus u.env 1 0 1 := ⟨hspent.fault, hspent.grants, hspent.rx⟩
    obtain ⟨e, hspent', hrun⟩ := ih (s := u) (Nat.succ.inj hlen)
      (hspent.calmFor rfl (by rwa [List.length_cons, Nat.add_comm] at hc)) hh hv hs (hspent.answers (rs := [b]) ha)
    refine ⟨e, ?_, ?_⟩
    · simpa [Nat.add_comm] using hspent.trans rfl hspent'
    · refine (run_cons hexec hrun).trans ?_
      simp [u]

/-- What was in progress does not matter to silent actions that replace it. -/
theorem settle_withAgenda (l l' : List Frame) (s : State) : settle l { s with agenda := l' } = settle l s := by
  induction l generalizing s with
  | nil => rfl
  | cons f l ih =>
    cases f with
    | act a => rw [settle_act, settle_act, doAct_agenda, ih]
    | op | word | log => rfl

/-- The first three events of a burst: the lock, the configuration, the select. -/
theorem run_select {d : Device} {l : List Frame} (hl : settled l = true) (hc : s.CalmFor 3) (hh : s.held d.bus = false)
    (hg : s.Grants 1 d.bus) :
    ∃ e t, s.Spends d.bus e 3 1 0 ∧
      opAcquire d.bus { s with agenda := .op (.cfg d.bus) :: .op (.csl d) :: l } = .next t ∧
      Host.Core.run Sys2Proof.core 2 t = .next
        { ((s.setHeld true d.bus).setCfgv true d.bus).setCsn false d with
          env := e, rx := [], agenda := l,
          trace := s.trace ++ [.acq d.bus, .cfg d.bus (busRate s.params d.bus).1 (busRate s.params d.bus).2, .csl d] } := by
  obtain ⟨e₁, h₁, hacq⟩ := exec_acq (bus := d.bus)
    (s := { s with agenda := .op (.cfg d.bus) :: .op (.csl d) :: l }) hc.calm (by cases d <;> exact hh)
    (by cases d <;> exact hg)
  let u₁ : State := { (s.setHeld true d.bus).setCfgv false d.bus with
    env := e₁, rx := [], trace := s.trace ++ [.acq d.bus], agenda := .op (.csl d) :: l }
  have hspent₁ : s.Spends d.bus u₁.env 1 1 0 := ⟨h₁.fault, h₁.grants, h₁.rx⟩
  have hpc₁ : u₁.pc = s.pc := by cases d <;> rfl
  obtain ⟨e₂, h₂, hcfg⟩ := exec_cfg (bus := d.bus) (s := u₁) (hspent₁.calmFor (n := 2) hpc₁ hc).calm (by cases d <;> rfl)
  let u₂ : State := { u₁.setCfgv true d.bus with
    env := e₂, trace := u₁.trace ++ [.cfg d.bus (busRate s.params d.bus).1 (busRate s.params d.bus).2],
    agenda := l }
  have hspent₂ : s.Spends d.bus u₂.env 2 1 0 := hspent₁.trans hpc₁ h₂
  have hpc₂ : u₂.pc = s.pc := by cases d <;> rfl
  obtain ⟨e₃, h₃, hcsl⟩ := exec_csl (bus := d.bus) (d := d) (s := u₂) (hspent₂.calmFor (n := 1) hpc₂ hc).calm
    (by cases d <;> rfl) (by cases d <;> rfl)
  rw [settle_of_settled (l := u₂.agenda) hl] at hcsl
  refine ⟨e₃, { u₁ with agenda := .op (.cfg d.bus) :: u₁.agenda }, hspent₂.trans hpc₂ h₃, ?_, ?_⟩
  · cases d <;> exact hacq
  · have hrun : Host.Core.run Sys2Proof.core 2 { u₁ with agenda := .op (.cfg d.bus) :: u₁.agenda } =
        .next { u₂.setCsn false d with env := e₃, trace := u₂.trace ++ [.csl d], agenda := l } := by
      cases d <;> exact run_cons hcfg (run_cons hcsl rfl)
    rw [hrun]
    cases d <;> simp [u₁, u₂, State.setHeld, State.setCfgv, State.setCsn, Device.bus]

/-- The last two events of a burst: the select, the lock. -/
theorem run_deselect {d : Device} {l : List Frame} (hc : s.CalmFor 2) (hh : s.held d.bus = true) :
    ∃ e, s.Spends d.bus e 2 0 0 ∧
      Host.Core.run Sys2Proof.core 2 { s with agenda := .op (.csh d) :: .op (.rel d.bus) :: l } = .next (settle l
        { (s.setCsn true d).setHeld false d.bus with env := e, trace := s.trace ++ [.csh d, .rel d.bus] }) := by
  obtain ⟨e₁, h₁, hcsh⟩ := exec_csh (bus := d.bus) (d := d) (s := { s with agenda := .op (.rel d.bus) :: l }) hc.calm
  let u₁ : State := { s.setCsn true d with env := e₁, trace := s.trace ++ [.csh d], agenda := l }
  have hspent₁ : s.Spends d.bus u₁.env 1 0 0 := ⟨h₁.fault, h₁.grants, h₁.rx⟩
  have hpc₁ : u₁.pc = s.pc := by cases d <;> rfl
  obtain ⟨e₂, h₂, hrel⟩ := exec_rel (bus := d.bus) (s := u₁) (hspent₁.calmFor (n := 1) hpc₁ hc).calm
    (by cases d <;> exact hh) (by cases d <;> rfl)
  refine ⟨e₂, hspent₁.trans hpc₁ h₂, ?_⟩
  rw [← settle_withAgenda l l]
  have hrun : Host.Core.run Sys2Proof.core 2 { s with agenda := .op (.csh d) :: .op (.rel d.bus) :: l } =
      .next (settle l { u₁.setHeld false d.bus with env := e₂, trace := u₁.trace ++ [.rel d.bus] }) := by
    cases d <;> exact run_cons hcsh (run_cons hrel rfl)
  rw [hrun]
  cases d <;> simp [u₁, State.setHeld, State.setCsn, Device.bus]

/-- The setup wait of a burst, where it has one. -/
theorem run_setup {setup : Nat} {l : List Frame} (hl : settled l = true) (hc : s.CalmFor (if 0 < setup then 1 else 0)) :
    ∃ e, s.Spends bus e (if 0 < setup then 1 else 0) 0 0 ∧
      Host.Core.run Sys2Proof.core (if 0 < setup then 1 else 0)
          { s with agenda := (if 0 < setup then [.op (.wait setup)] else []) ++ l } =
        .next { s with env := e, waited := s.waited + setup, agenda := l,
                       trace := s.trace ++ (if 0 < setup then [.wait setup] else []) } := by
  by_cases hpos : 0 < setup
  · simp only [hpos, if_true] at hc ⊢
    obtain ⟨e, hspent, hwait⟩ := exec_wait (bus := bus) (s := { s with agenda := l }) (n := setup) hc.calm hpos
    rw [settle_of_settled (l := State.agenda { s with agenda := l }) hl] at hwait
    exact ⟨e, ⟨hspent.fault, hspent.grants, hspent.rx⟩, run_cons hwait rfl⟩
  · obtain rfl : setup = 0 := by omega
    exact ⟨s.env, ⟨fun _ => rfl, rfl, rfl⟩, by simp [Host.Core.run]⟩

/-- A BURST (R83): its events in order, the lock free, the select high and the configuration mark set after it. -/
theorem burst_runs {d : Device} {setup : Nat} {tx rs : List Byte} (hlen : rs.length = tx.length)
    (hh : s.held d.bus = false) (hc : s.CalmFor (tx.length + 5 + if 0 < setup then 1 else 0)) (hg : s.Grants 1 d.bus)
    (ha : s.Answers rs) :
    ∃ e t, s.Spends d.bus e (tx.length + 5 + if 0 < setup then 1 else 0) 1 rs.length ∧
      opBurst d.bus d setup tx s = .next t ∧
      Host.Core.run Sys2Proof.core (tx.length + 4 + if 0 < setup then 1 else 0) t = .next (settle s.agenda
        { ((s.setHeld false d.bus).setCfgv true d.bus).setCsn true d with
          env := e, rx := rs, waited := s.waited + setup,
          trace := s.trace ++ burstEvents s.params d.bus d setup tx rs }) := by
  generalize hw : (if 0 < setup then 1 else 0) = w at hc ⊢
  let last := [Frame.op (.csh d), .op (.rel d.bus)] ++ s.agenda
  let exchanges := tx.map (fun b => Frame.op (.xfer d.bus b)) ++ last
  let waiting := (if 0 < setup then [Frame.op (.wait setup)] else []) ++ exchanges
  have hexchanges : settled exchanges = true := settled_xfers rfl tx
  have hwaiting : settled waiting = true := by
    simp only [waiting]
    split
    · rfl
    · exact hexchanges
  obtain ⟨e₁, t, h₁, hacq, hselect⟩ := run_select hwaiting (hc.mono (by omega)) hh hg
  let u₁ : State := { ((s.setHeld true d.bus).setCfgv true d.bus).setCsn false d with
    env := e₁, rx := [],
    trace := s.trace ++ [.acq d.bus, .cfg d.bus (busRate s.params d.bus).1 (busRate s.params d.bus).2, .csl d] }
  have hspent₁ : s.Spends d.bus u₁.env 3 1 0 := h₁
  have hpc₁ : u₁.pc = s.pc := by cases d <;> rfl
  obtain ⟨e₂, h₂, hsetup⟩ := run_setup (bus := d.bus) (s := u₁) hexchanges
    (hw ▸ hspent₁.calmFor (n := w) hpc₁ (hc.mono (by omega)))
  let u₂ : State := { u₁ with
    env := e₂, waited := u₁.waited + setup, trace := u₁.trace ++ (if 0 < setup then [.wait setup] else []) }
  have hspent₂ : s.Spends d.bus u₂.env (3 + w) 1 0 := by simpa [hw] using hspent₁.trans hpc₁ h₂
  have hpc₂ : u₂.pc = s.pc := hpc₁
  obtain ⟨e₃, h₃, hxfers⟩ := run_xfers (bus := d.bus) (s := u₂) (l := last) (tx := tx) (rs := rs) rfl hlen
    (hspent₂.calmFor hpc₂ (hc.mono (by omega))) (by cases d <;> rfl) (by cases d <;> rfl) (by cases d <;> rfl)
    (hspent₂.answers (rs := []) ha)
  let u₃ : State := { u₂ with
    env := e₃, rx := u₂.rx ++ rs, trace := u₂.trace ++ List.zipWith (fun t r => .xfer d.bus t r) tx rs }
  have hspent₃ : s.Spends d.bus u₃.env (3 + w + tx.length) 1 rs.length := by simpa using hspent₂.trans hpc₂ h₃
  have hpc₃ : u₃.pc = s.pc := hpc₁
  obtain ⟨e, h₄, hdeselect⟩ := run_deselect (d := d) (s := u₃) (l := s.agenda)
    (hspent₃.calmFor hpc₃ (hc.mono (by omega))) (by cases d <;> rfl)
  have hspent : s.Spends d.bus e (tx.length + 5 + w) 1 rs.length := by
    have h := hspent₃.trans hpc₃ h₄
    rwa [show 3 + w + tx.length + 2 = tx.length + 5 + w by omega] at h
  refine ⟨e, t, hspent, ?_, ?_⟩
  · rw [opBurst, ← hacq]
    simp only [State.push, burstTail, waiting, exchanges, last, List.append_assoc, List.cons_append, List.nil_append]
  · rw [show tx.length + 4 + w = 2 + ((if 0 < setup then 1 else 0) + (tx.length + 2)) by omega,
      run_add hselect, run_add hsetup, run_add hxfers]
    refine hdeselect.trans ?_
    cases d <;> simp [u₁, u₂, u₃, State.setHeld, State.setCfgv, State.setCsn, Device.bus, burstEvents]

end
end Sys2Proof.Machine

/-! ## The record of the CAN controller (R27, R28, R35) -/

namespace Sys2Proof.Machine

theorem Mem.get_set (m : Mem) (a b : Nat) (v : Byte) : (m.set a v).get b = if b = a then some v else m.get b := by
  split
  next h => rw [h, Mem.get_set_same]
  next h => exact Mem.get_set_other m v h

/-- Bytes written from an address upwards are read back there, and nothing else has changed. -/
theorem Mem.get_setList (m : Mem) (a b : Nat) (l : List Byte) :
    (m.setList a l).get b = if a ≤ b ∧ b < a + l.length then l[b - a]? else m.get b := by
  induction l generalizing m a with
  | nil => simp [Mem.setList]
  | cons v l ih =>
    rw [Mem.setList, ih, Mem.get_set, List.length_cons]
    obtain h | rfl | h := Nat.lt_trichotomy b a
    · rw [if_neg (by omega), if_neg (by omega), if_neg (by omega)]
    · rw [if_neg (by omega), if_pos rfl, if_pos (by omega), Nat.sub_self, List.getElem?_cons_zero]
    · obtain ⟨k, rfl⟩ := Nat.exists_eq_add_of_lt h
      rw [if_neg (by omega : a + k + 1 ≠ a), show a + k + 1 - a = k + 1 by omega, List.getElem?_cons_succ,
        show a + k + 1 - (a + 1) = k by omega]
      exact if_congr (by omega) rfl rfl

theorem State.Grants.mono {s : State} {bus : Bus} {m n : Nat} (h : s.Grants n bus) (hmn : m ≤ n) : s.Grants m bus := by
  rw [grants_iff, ← Nat.add_sub_cancel' hmn, List.replicate_add] at h
  exact grants_iff.mpr ((List.prefix_append _ _).trans h)

section
variable {s : State} {tx rs : List Byte}

theorem canEvents_length {p : Config.Params} (hlen : rs.length = tx.length) :
    (canEvents p tx rs).length = tx.length + 5 := by
  simp [canEvents, burstEvents, hlen]

/-- A burst to the CAN controller (R83), which leaves the lock as it was: free. -/
theorem canBurst_runs {after : List Frame} (hlen : rs.length = tx.length) (hh : s.heldB = false)
    (hc : s.CalmFor (tx.length + 5)) (hg : s.Grants 1 .busB) (ha : s.Answers rs) :
    ∃ e t, s.Spends .busB e (tx.length + 5) 1 rs.length ∧ opCanBurst tx after s = .next t ∧
      Host.Core.run Sys2Proof.core (tx.length + 4) t = .next (settle (after ++ s.agenda)
        { s with env := e, rx := rs, cfgvB := true, canCsn := true, trace := s.trace ++ canEvents s.params tx rs }) := by
  obtain ⟨e, t, hspent, hburst, hrun⟩ := burst_runs (s := s.push after) (d := .can) (setup := 0) hlen hh hc hg ha
  refine ⟨e, t, ⟨hspent.fault, hspent.grants, hspent.rx⟩, hburst, hrun.trans ?_⟩
  rw [← settle_withAgenda (after ++ s.agenda) (after ++ s.agenda)]
  simp [State.push, State.setHeld, State.setCfgv, State.setCsn, Device.bus, canEvents, hh]

theorem load_length (id : BitVec 11) (data : List Byte) (n : Nat) : (loadHeader id n ++ data).length = 5 + data.length :=
  List.length_append

/-- The load of transmit buffer 0 (R101) in one burst. -/
theorem load_runs_whole {id : BitVec 11} {data : List Byte} {after : List Frame} (hw : s.params.txLoadSplit = false)
    (hlen : rs.length = 6 + data.length) (hh : s.heldB = false) (hc : s.CalmFor (data.length + 11))
    (hg : s.Grants 1 .busB) (ha : s.Answers rs) :
    ∃ e t, s.Spends .busB e (data.length + 11) 1 rs.length ∧ opLoadTx0 id data after s = .next t ∧
      Host.Core.run Sys2Proof.core (data.length + 10) t =
        .next (settle (.act (.noteTx (loadHeader id data.length ++ data)) :: (after ++ s.agenda))
          { s with env := e, rx := rs, cfgvB := true, canCsn := true,
                   trace := s.trace ++ loadEvents s.params id data rs }) := by
  have htx : (s.params.opLoadTx0 :: (loadHeader id data.length ++ data)).length = data.length + 6 := by
    rw [List.length_cons, load_length, Nat.add_comm 5]
  obtain ⟨e, t, hspent, hexec, hrun⟩ := canBurst_runs (tx := s.params.opLoadTx0 :: (loadHeader id data.length ++ data))
    (after := .act (.noteTx (loadHeader id data.length ++ data)) :: after) (by omega) hh (by rwa [htx]) hg ha
  rw [htx] at hspent hrun
  refine ⟨e, t, hspent, ?_, ?_⟩
  · simpa [opLoadTx0, hw] using hexec
  · simpa [loadEvents, hw] using hrun

/-- The load of transmit buffer 0 (R101) in two bursts: the opcode, then the header and the data. -/
theorem load_runs_split {id : BitVec 11} {data : List Byte} {after : List Frame} (hw : s.params.txLoadSplit = true)
    (hlen : rs.length = 6 + data.length) (hh : s.heldB = false) (hc : s.CalmFor (data.length + 16))
    (hg : s.Grants 2 .busB) (ha : s.Answers rs) :
    ∃ e t, s.Spends .busB e (data.length + 16) 2 rs.length ∧ opLoadTx0 id data after s = .next t ∧
      Host.Core.run Sys2Proof.core (data.length + 15) t =
        .next (settle (.act (.noteTx (loadHeader id data.length ++ data)) :: (after ++ s.agenda))
          { s with env := e, rx := rs.drop 1, cfgvB := true, canCsn := true,
                   trace := s.trace ++ loadEvents s.params id data rs }) := by
  have htx := load_length id data data.length
  obtain ⟨b, rs, rfl⟩ := List.exists_cons_of_length_pos (l := rs) (by omega)
  rw [List.length_cons] at hlen
  let rest := Frame.act (.noteTx (loadHeader id data.length ++ data)) :: (after ++ s.agenda)
  obtain ⟨e₁, t, h₁, hexec, hrun⟩ := canBurst_runs (tx := [s.params.opLoadTx0]) (rs := [b])
    (after := .op (.burst .busB .can 0 (loadHeader id data.length ++ data)) ::
      .act (.noteTx (loadHeader id data.length ++ data)) :: after)
    rfl hh (hc.mono (by simp)) (hg.mono (by omega)) ((List.prefix_append [b] rs).trans ha)
  let u : State := { s with
    env := e₁, rx := [b], cfgvB := true, canCsn := true, agenda := rest,
    trace := s.trace ++ canEvents s.params [s.params.opLoadTx0] [b] }
  have hspent : s.Spends .busB u.env 6 1 1 := h₁
  obtain ⟨e, t', h₂, hexec', hrun'⟩ := canBurst_runs (s := u) (tx := loadHeader id data.length ++ data) (rs := rs)
    (after := []) (by omega) hh (hspent.calmFor rfl (hc.mono (by omega))) (hspent.grants_of (n := 1) hg)
    (hspent.answers (rs := [b]) ha)
  have hburst : exec (.burst .busB .can 0 (loadHeader id data.length ++ data)) u = .next t' := hexec'
  refine ⟨e, t, ?_, ?_, ?_⟩
  · have h := hspent.trans rfl h₂
    rwa [htx, show 6 + (5 + data.length + 5) = data.length + 16 by omega, Nat.add_comm 1 rs.length] at h
  · simpa [opLoadTx0, hw] using hexec
  · have h := (run_add hrun).trans (run_cons hburst hrun')
    rw [htx, show [s.params.opLoadTx0].length + 4 + (5 + data.length + 4 + 1) = data.length + 15 by
      rw [List.length_singleton]; omega] at h
    rw [h, ← settle_withAgenda rest rest]
    simp [u, rest, loadEvents, hw, List.append_assoc]

theorem loadEvents_length {p : Config.Params} {id : BitVec 11} {data : List Byte} (hlen : rs.length = 6 + data.length) :
    (loadEvents p id data rs).length = data.length + if p.txLoadSplit then 16 else 11 := by
  have htx := load_length id data data.length
  unfold loadEvents
  split
  · have hop : (rs.take 1).length = [p.opLoadTx0].length := by
      rw [List.length_take, List.length_singleton]
      omega
    have hrest : (rs.drop 1).length = (loadHeader id data.length ++ data).length := by rw [List.length_drop]; omega
    rw [List.length_append, canEvents_length hop, canEvents_length hrest, htx, List.length_singleton]
    omega
  · have hrest : rs.length = (p.opLoadTx0 :: (loadHeader id data.length ++ data)).length := by
      rw [List.length_cons]
      omega
    rw [canEvents_length hrest, ← hrest]
    omega

end

/-- Settles O30: the record is written by one silent action, after the burst it belongs to. -/
theorem controllerWritesTouchOnlyTheirBytes : Obligations.ControllerWritesTouchOnlyTheirBytes := by
  refine ⟨fun a v s rs hl hh hc hg ha hlen => ?_, fun id data rs s hl hd hlen hh hc hg ha => ?_⟩
  · obtain ⟨e, t, -, hexec, hrun⟩ := canBurst_runs (tx := writeBytes s.params a v) (after := [.act (.noteReg a v)])
      hlen hh hc hg ha
    refine ⟨_, ⟨t, hexec, hrun⟩, ?_⟩
    rw [hl]
    exact ⟨rfl, fun b => Mem.get_set _ _ _ _⟩
  · have hexec : exec (.canLoadTx0Cmd id data) s = opLoadTx0 id data [] s := if_pos (decide_eq_true hd)
    obtain ⟨e, r, t, hload, hrun⟩ : ∃ e r t, opLoadTx0 id data [] s = .next t ∧
        Host.Core.run Sys2Proof.core ((loadEvents s.params id data rs).length - 1) t =
          .next (settle (.act (.noteTx (loadHeader id data.length ++ data)) :: ([] ++ s.agenda))
            { s with env := e, rx := r, cfgvB := true, canCsn := true,
                     trace := s.trace ++ loadEvents s.params id data rs }) := by
      rw [loadEvents_length hlen]
      cases hw : s.params.txLoadSplit with
      | false =>
        obtain ⟨e, t, -, h⟩ := load_runs_whole (id := id) (after := []) hw hlen hh (hc.mono (by omega))
          (hg.mono (by omega)) ha
        exact ⟨e, _, t, h⟩
      | true =>
        obtain ⟨e, t, -, h⟩ := load_runs_split (id := id) (after := []) hw hlen hh (hc.mono (by omega)) hg ha
        exact ⟨e, _, t, h⟩
    refine ⟨_, ⟨t, hexec.trans hload, hrun⟩, ?_⟩
    rw [hl]
    refine ⟨rfl, fun j => (Mem.get_setList _ _ _ _).trans ?_⟩
    rw [load_length, Nat.zero_add, Nat.sub_zero]
    exact if_congr (and_iff_right (Nat.zero_le j)) rfl rfl

end Sys2Proof.Machine

/-! ## The record of the CAN controller stays canonical (R27, R35)

Silent actions alone write the record, and `settle_memory_wf` says that they keep it canonical. Everything else an operation
does leaves the two byte maps as they are, which is shown once for each shared operation. -/

namespace Sys2Proof.Machine

/-- Both byte maps of the record are canonical. -/
def State.RecordWf (s : State) : Prop := s.canRegs.wf ∧ s.txb0.wf

/-- A next state, where the result is one, has a canonical record. -/
def RecordWfNext (r : Result) : Prop := ∀ t, r = .next t → t.RecordWf

@[simp] theorem State.recordWf_passed (s : State) : s.passed.RecordWf ↔ s.RecordWf := by simp [State.RecordWf]

@[simp] theorem State.recordWf_setHeld (s : State) (v : Bool) (bus : Bus) : (s.setHeld v bus).RecordWf ↔ s.RecordWf := by
  simp [State.RecordWf]

@[simp] theorem State.recordWf_setCfgv (s : State) (v : Bool) (bus : Bus) : (s.setCfgv v bus).RecordWf ↔ s.RecordWf := by
  simp [State.RecordWf]

@[simp] theorem State.recordWf_setCsn (s : State) (v : Bool) (d : Device) : (s.setCsn v d).RecordWf ↔ s.RecordWf := by
  simp [State.RecordWf]

@[simp] theorem State.recordWf_usedGrant (s : State) (bus : Bus) : (s.usedGrant bus).RecordWf ↔ s.RecordWf := by
  simp [State.RecordWf]

section
variable {s : State}

/-! ### The ways a meaning ends -/

theorem recordWfNext_next (h : s.RecordWf) : RecordWfNext (.next s) := by
  rintro _ ⟨⟩
  exact h

theorem recordWfNext_fault (f : Fault) : RecordWfNext (.fault f) := fun _ h => by cases h

theorem recordWfNext_refused (r : Refusal) : RecordWfNext (.refused r) := fun _ h => by cases h

/-- An operation whose requirement may fail stops there without a next state. -/
theorem RecordWfNext.orFault {c : Prop} [Decidable c] {r : Result} {f : Fault} (h : RecordWfNext r) :
    RecordWfNext (if c then r else .fault f) := by
  split
  · exact h
  · exact recordWfNext_fault f

theorem done_recordWf (h : s.RecordWf) : RecordWfNext (done s) := recordWfNext_next (settle_memory_wf s.agenda s h)

theorem event_recordWf (e : Event) (h : s.RecordWf) : RecordWfNext (event s e) := done_recordWf (s := s.emit e) h

theorem refuse_recordWf (h : s.RecordWf) : RecordWfNext (refuse s) := recordWfNext_next h

theorem takeLoopFault_recordWf (c : Cause) (h : s.RecordWf) : (takeLoopFault c s).RecordWf := h

/-- A condition taken at the boundary leaves the record, so what follows the boundary decides. -/
theorem atBoundary_recordWf {k : State → Result} (h : s.RecordWf) (hk : ∀ u : State, u.RecordWf → RecordWfNext (k u)) :
    RecordWfNext (atBoundary s k) := by
  intro t ht
  obtain ⟨-, hpassed⟩ | ⟨c, -, -, rfl⟩ | ⟨c, -, -, rfl⟩ := atBoundary_next ht
  · exact hk s.passed (s.recordWf_passed.mpr h) t hpassed
  · exact takeLoopFault_recordWf (s := s.usedFault) _ h
  · exact h

/-! ### The primitives and the burst -/

theorem opAcquire_recordWf (bus : Bus) (h : s.RecordWf) : RecordWfNext (opAcquire bus s) := by
  refine atBoundary_recordWf h fun u hu => ?_
  have hgrant : (u.usedGrant bus).RecordWf := (u.recordWf_usedGrant bus).mpr hu
  split
  · have hheld : (((u.usedGrant bus).setHeld true bus).setCfgv false bus).RecordWf := by simpa using hgrant
    exact event_recordWf _ hheld
  · exact recordWfNext_next hgrant

theorem opConfigure_recordWf (bus : Bus) (h : s.RecordWf) : RecordWfNext (opConfigure bus s) :=
  .orFault (atBoundary_recordWf h fun u hu => event_recordWf _ ((u.recordWf_setCfgv true bus).mpr hu))

theorem opCsLow_recordWf (d : Device) (h : s.RecordWf) : RecordWfNext (opCsLow d s) :=
  .orFault (atBoundary_recordWf h fun u hu => event_recordWf _ ((u.recordWf_setCsn false d).mpr hu))

theorem opWait_recordWf (n : Nat) (h : s.RecordWf) : RecordWfNext (opWait n s) :=
  .orFault (atBoundary_recordWf h fun _ hu => event_recordWf _ hu)

theorem opXfer_recordWf (bus : Bus) (tx : Byte) (h : s.RecordWf) : RecordWfNext (opXfer bus tx s) :=
  .orFault (atBoundary_recordWf h fun _ hu => event_recordWf _ hu)

theorem opCsHigh_recordWf (d : Device) (h : s.RecordWf) : RecordWfNext (opCsHigh d s) :=
  atBoundary_recordWf h fun u hu => event_recordWf _ ((u.recordWf_setCsn true d).mpr hu)

theorem opRelease_recordWf (bus : Bus) (h : s.RecordWf) : RecordWfNext (opRelease bus s) :=
  .orFault (atBoundary_recordWf h fun u hu => event_recordWf _ ((u.recordWf_setHeld false bus).mpr hu))

theorem opSetMux_recordWf (sel : BitVec 4) (h : s.RecordWf) : RecordWfNext (opSetMux sel s) :=
  atBoundary_recordWf h fun _ hu => event_recordWf _ hu

theorem opBurst_recordWf (bus : Bus) (d : Device) (setup : Nat) (tx : List Byte) (h : s.RecordWf) :
    RecordWfNext (opBurst bus d setup tx s) :=
  opAcquire_recordWf bus (s := s.push (burstTail bus d setup tx)) h

/-! ### The CAN Link Driver, the Analog Sampler and frame splitting -/

theorem opCanBurst_recordWf (bytes : List Byte) (after : List Frame) (h : s.RecordWf) :
    RecordWfNext (opCanBurst bytes after s) :=
  opBurst_recordWf .busB .can 0 bytes (s := s.push after) h

theorem opAdcBurst_recordWf (bytes : List Byte) (after : List Frame) (h : s.RecordWf) :
    RecordWfNext (opAdcBurst bytes after s) :=
  opBurst_recordWf .busA .adc _ bytes (s := s.push after) h

theorem opLoadTx0_recordWf (id : BitVec 11) (data : List Byte) (after : List Frame) (h : s.RecordWf) :
    RecordWfNext (opLoadTx0 id data after s) := by
  unfold opLoadTx0
  split
  · exact opCanBurst_recordWf _ _ h
  · exact opCanBurst_recordWf _ _ h

theorem opSendFrame_recordWf (id : BitVec 16) (data : List Byte) (after : List Frame) {onError : TxError → State → Result}
    (herr : ∀ e, RecordWfNext (onError e s)) (h : s.RecordWf) : RecordWfNext (opSendFrame id data after onError s) := by
  unfold opSendFrame
  split
  · exact refuse_recordWf h
  · split
    · exact herr _
    · split
      · exact herr _
      · exact opLoadTx0_recordWf _ _ _ h

theorem opCanReset_recordWf (h : s.RecordWf) : RecordWfNext (opCanReset s) :=
  opCanBurst_recordWf _ _ (s := { s with canst := .resetting }) h

theorem opCfgWrite_recordWf (k : Fin 5) (h : s.RecordWf) : RecordWfNext (opCfgWrite k s) :=
  opCanBurst_recordWf _ _ (s := s.setPc .canCfg k.val) h

theorem opReadDirect_recordWf (i : Fin 7) (h : s.RecordWf) : RecordWfNext (opReadDirect i s) :=
  opAdcBurst_recordWf _ _ (s := s.setPc .sample i.val) h

theorem opReadMuxed_recordWf (j : Fin 16) (h : s.RecordWf) : RecordWfNext (opReadMuxed j s) :=
  opSetMux_recordWf _ (s := (s.setPc .sample (j.val + 7)).push _) h

theorem execPack_recordWf (h : s.RecordWf) : RecordWfNext (execPack s) := by
  unfold execPack
  generalize packed s.x = pay
  split
  · exact recordWfNext_fault _
  · exact done_recordWf (s := { s with pay := pay, payLive := true }) h

theorem execSplit_recordWf (k : Fin 6) (h : s.RecordWf) : RecordWfNext (execSplit k s) := by
  unfold execSplit
  split
  · exact recordWfNext_fault _
  · exact done_recordWf (s := { s with ret := .bytes _ }) h

theorem opChunk_recordWf (k : Fin 6) (h : s.RecordWf) : RecordWfNext (opChunk k s) := by
  have hpc : (s.setPc .tx k.val).RecordWf := h
  unfold opChunk
  split
  · exact refuse_recordWf hpc
  · split
    · exact recordWfNext_fault _
    · exact opSendFrame_recordWf _ _ _ (fun _ => recordWfNext_next (takeLoopFault_recordWf _ hpc)) hpc

theorem opSendReadings_recordWf (after : List Frame) (h : s.RecordWf) : RecordWfNext (opSendReadings after s) := by
  unfold opSendReadings
  generalize packed s.x = pay
  split
  · exact recordWfNext_fault _
  · exact opChunk_recordWf 0 (s := State.push { s with pay := pay, payLive := true } _) h

/-! ### The Cyclic Scheduler -/

theorem execSchedInit_recordWf (h : s.RecordWf) : RecordWfNext (execSchedInit s) :=
  atBoundary_recordWf h fun _ hu => event_recordWf _ hu

theorem execStopCheck_recordWf (h : s.RecordWf) : RecordWfNext (execStopCheck s) :=
  atBoundary_recordWf h fun _ hu => event_recordWf _ hu

theorem execReadClock_recordWf (h : s.RecordWf) : RecordWfNext (execReadClock s) :=
  atBoundary_recordWf h fun _ hu => event_recordWf _ hu

theorem execShutdown_recordWf (h : s.RecordWf) : RecordWfNext (execShutdown s) :=
  atBoundary_recordWf h fun _ hu => event_recordWf _ hu

theorem execStoreIfDue_recordWf (h : s.RecordWf) : RecordWfNext (execStoreIfDue s) := by
  unfold execStoreIfDue
  split
  · split
    · split
      · exact atBoundary_recordWf h fun _ hu => event_recordWf _ hu
      · exact recordWfNext_fault _
    · exact done_recordWf (s := s.setPc .tx 0) h
  · exact recordWfNext_fault _

theorem execTxIfDue_recordWf (h : s.RecordWf) : RecordWfNext (execTxIfDue s) := by
  unfold execTxIfDue
  split
  · split
    · exact opSendReadings_recordWf _ h
    · exact done_recordWf (s := s.setPc .sleep 0) h
  · exact recordWfNext_fault _

theorem opLog_recordWf (c : Cause) (h : s.RecordWf) : RecordWfNext (opLog c s) :=
  atBoundary_recordWf h fun _ hu => event_recordWf _ hu

/-! ### Every instruction, and the step -/

theorem exec_recordWf (i : Instr) (h : s.RecordWf) : RecordWfNext (exec i s) := by
  cases i with
  | adcCmd | adcCmdA0 | adcCmdA1 | adcCmdA2 | adcCmdA3 | adcCmdA4 | adcCmdA5 | adcCmdA6 | adcCmdA7 | readAdc =>
    exact opAdcBurst_recordWf _ _ h
  | canResetCmd | canRts0Cmd | canWriteCmd | canWriteCmdW1 | canWriteCmdW2 | canWriteCmdW3 | canWriteCmdW4
  | canWriteCmdW5 => exact opCanBurst_recordWf _ _ h
  | adcAnswer | rd16Word => exact done_recordWf h
  | muxPattern sel | muxSet sel => exact opSetMux_recordWf sel h
  | canLoadTx0Cmd id data => exact (opLoadTx0_recordWf id data [] h).orFault
  | canReset | canInit => exact opCanReset_recordWf h
  | canConfigure | cfgWrite1 | cfgWrite2 | cfgWrite3 | cfgWrite4 | cfgWrite5 => exact opCfgWrite_recordWf _ h
  | sendFrame id data =>
    exact opSendFrame_recordWf id data [] (onError := fun e u => done { u with ret := .txError e })
      (fun _ => done_recordWf h) h
  | sampleAll | readDirect0 | readDirect1 | readDirect2 | readDirect3 | readDirect4 | readDirect5 | readDirect6 =>
    exact opReadDirect_recordWf _ h
  | readMuxed7 | readMuxed8 | readMuxed9 | readMuxed10 | readMuxed11 | readMuxed12 | readMuxed13 | readMuxed14
  | readMuxed15 | readMuxed16 | readMuxed17 | readMuxed18 | readMuxed19 | readMuxed20 | readMuxed21 | readMuxed22 =>
    exact opReadMuxed_recordWf _ h
  | pack => exact execPack_recordWf h
  | split k => exact execSplit_recordWf k h
  | sendChunk0 | sendChunk1 | sendChunk2 | sendChunk3 | sendChunk4 | sendChunk5 => exact opChunk_recordWf _ h
  | sendReadings => exact opSendReadings_recordWf [] h
  | acq bus => exact opAcquire_recordWf bus h
  | cfg bus => exact opConfigure_recordWf bus h
  | csl d => exact opCsLow_recordWf d h
  | wait n => exact opWait_recordWf n h
  | xfer bus tx => exact opXfer_recordWf bus tx h
  | csh d => exact opCsHigh_recordWf d h
  | rel bus => exact opRelease_recordWf bus h
  | burst bus d setup tx => exact (opBurst_recordWf bus d setup tx h).orFault
  | pIdle => exact recordWfNext_next h
  | run => exact (done_recordWf (s := s.setPc .canReset 0) h).orFault
  | schedInit => exact execSchedInit_recordWf h
  | stopCheck => exact execStopCheck_recordWf h
  | readClock => exact execReadClock_recordWf h
  | shutdown => exact execShutdown_recordWf h
  | storeIfDue => exact execStoreIfDue_recordWf h
  | txIfDue => exact execTxIfDue_recordWf h
  | loopSleep => exact opWait_recordWf Config.tLoopSleep (s := s.push _) h
  | pStopped | pFailed => exact recordWfNext_fault _

theorem step_recordWf (h : s.RecordWf) : RecordWfNext (step s) := by
  unfold step
  split
  case h_1 nbits w rest _ =>
    split
    · exact exec_recordWf _ (s := { s with agenda := rest }) h
    · exact recordWfNext_refused _
  case h_2 i rest _ => exact exec_recordWf i (s := { s with agenda := rest }) h
  case h_3 c rest _ => exact opLog_recordWf c (s := { s with agenda := rest }) h
  case h_4 a rest _ => exact recordWfNext_next (settle_memory_wf (.act a :: rest) s h)
  case h_5 =>
    split
    · exact exec_recordWf _ h
    · exact recordWfNext_refused _

end

/-- Settles O52: what runs outside silent actions leaves the record, and silent actions keep it canonical. -/
theorem controllerMapsStayCanonical : Obligations.ControllerMapsStayCanonical :=
  fun _ t hregs htx hstep => step_recordWf ⟨hregs, htx⟩ t hstep

end Sys2Proof.Machine

/-! ## Encodings (R54 to R65, R75)

Each byte of a format is first said as a number, so that what is packed is read back by arithmetic alone. The rows of
the phase register are one case, `(p, k)`; each wire format is another. What decodes is its own row, `Instr.OwnRow`. -/

namespace Sys2Proof

/-! ### The bytes as numbers -/

theorem readingOf_toNat (b0 b1 : Byte) : (readingOf b0 b1).toNat = b0.toNat % 16 * 256 + b1.toNat := by
  have hmask : (b0 &&& 0x0F#8).toNat = b0.toNat % 16 := Nat.and_two_pow_sub_one_eq_mod b0.toNat 4
  rw [readingOf, BitVec.toNat_or, BitVec.toNat_shiftLeft, BitVec.toNat_setWidth, BitVec.toNat_setWidth, hmask,
    Nat.mod_eq_of_lt (by omega : b0.toNat % 16 < 2 ^ 12), Nat.mod_eq_of_lt (by omega : b1.toNat < 2 ^ 12),
    Nat.mod_eq_of_lt (by rw [Nat.shiftLeft_eq]; omega), ← Nat.shiftLeft_add_eq_or_of_lt b1.isLt, Nat.shiftLeft_eq]

theorem readingHigh_toNat (v : Reading) : (readingHigh v).toNat = v.toNat / 256 := by
  rw [readingHigh, BitVec.toNat_setWidth, BitVec.toNat_ushiftRight, Nat.shiftRight_eq_div_pow]
  omega

theorem readingLow_toNat (v : Reading) : (readingLow v).toNat = v.toNat % 256 := BitVec.toNat_setWidth 8 v

theorem idHigh_toNat (id : BitVec 11) : (idHigh id).toNat = id.toNat / 8 := by
  rw [idHigh, BitVec.toNat_setWidth, BitVec.toNat_ushiftRight, Nat.shiftRight_eq_div_pow]
  omega

theorem idLow_toNat (id : BitVec 11) : (idLow id).toNat = id.toNat % 8 * 32 := by
  have hmask : (id &&& 7#11).toNat = id.toNat % 8 := Nat.and_two_pow_sub_one_eq_mod id.toNat 3
  rw [idLow, BitVec.toNat_shiftLeft, BitVec.toNat_setWidth, hmask, Nat.shiftLeft_eq]
  omega

theorem idOf_toNat (h l : Byte) : (idOf h l).toNat = h.toNat * 8 + l.toNat / 32 := by
  have hl : l.toNat / 32 < 2 ^ 3 := by omega
  rw [idOf, BitVec.toNat_or, BitVec.toNat_shiftLeft, BitVec.toNat_setWidth, BitVec.toNat_setWidth,
    BitVec.toNat_ushiftRight, Nat.mod_eq_of_lt (by omega : h.toNat < 2 ^ 11),
    Nat.mod_eq_of_lt (by rw [Nat.shiftLeft_eq]; omega), Nat.shiftRight_eq_div_pow,
    Nat.mod_eq_of_lt (by omega), ← Nat.shiftLeft_add_eq_or_of_lt hl, Nat.shiftLeft_eq]

/-- The first byte of an answer: its high four bits before the reading's. -/
theorem answerHigh_toNat (hi : BitVec 4) (v : Reading) :
    ((hi.setWidth 8 <<< 4) ||| readingHigh v).toNat = hi.toNat * 16 + v.toNat / 256 := by
  have hv : v.toNat / 256 < 2 ^ 4 := by omega
  rw [BitVec.toNat_or, BitVec.toNat_shiftLeft, BitVec.toNat_setWidth, readingHigh_toNat,
    Nat.mod_eq_of_lt (by omega : hi.toNat < 2 ^ 8), Nat.mod_eq_of_lt (by rw [Nat.shiftLeft_eq]; omega),
    ← Nat.shiftLeft_add_eq_or_of_lt hv, Nat.shiftLeft_eq]

/-! ### What is packed is read back, and the reverse -/

theorem readingOf_answer (hi : BitVec 4) (v : Reading) :
    readingOf ((hi.setWidth 8 <<< 4) ||| readingHigh v) (readingLow v) = v := by
  refine BitVec.eq_of_toNat_eq ?_
  rw [readingOf_toNat, answerHigh_toNat, readingLow_toNat]
  omega

theorem readingOf_packed (v : Reading) : readingOf (readingHigh v) (readingLow v) = v := by
  refine BitVec.eq_of_toNat_eq ?_
  rw [readingOf_toNat, readingHigh_toNat, readingLow_toNat]
  omega

theorem readingLow_readingOf (b0 b1 : Byte) : readingLow (readingOf b0 b1) = b1 := by
  refine BitVec.eq_of_toNat_eq ?_
  rw [readingLow_toNat, readingOf_toNat]
  omega

theorem readingHigh_readingOf {b0 : Byte} (h : b0.toNat < 16) (b1 : Byte) : readingHigh (readingOf b0 b1) = b0 := by
  refine BitVec.eq_of_toNat_eq ?_
  rw [readingHigh_toNat, readingOf_toNat]
  omega

theorem idOf_idBytes (id : BitVec 11) : idOf (idHigh id) (idLow id) = id := by
  refine BitVec.eq_of_toNat_eq ?_
  rw [idOf_toNat, idHigh_toNat, idLow_toNat]
  omega

theorem idHigh_idOf (h l : Byte) : idHigh (idOf h l) = h := by
  refine BitVec.eq_of_toNat_eq ?_
  rw [idHigh_toNat, idOf_toNat]
  omega

/-- The low identifier byte carries three bits, so its other five are zero. -/
theorem idLow_idOf {l : Byte} (hl : l.toNat % 32 = 0) (h : Byte) : idLow (idOf h l) = l := by
  refine BitVec.eq_of_toNat_eq ?_
  rw [idLow_toNat, idOf_toNat]
  omega

theorem lowFiveBits_zero_iff (l : Byte) : l &&& 0x1F#8 = 0#8 ↔ l.toNat % 32 = 0 := by
  have hmask : (l &&& 0x1F#8).toNat = l.toNat % 32 := Nat.and_two_pow_sub_one_eq_mod l.toNat 5
  rw [← BitVec.toNat_inj, hmask]
  rfl

theorem highFourBits_toNat (b : Byte) : ((b >>> 4).setWidth 4 : BitVec 4).toNat = b.toNat / 16 := by
  rw [BitVec.toNat_setWidth, BitVec.toNat_ushiftRight, Nat.shiftRight_eq_div_pow]
  omega

theorem adcCommandByte_of_pattern {b : Byte} (h : b &&& 0x8F#8 = 0x80#8) :
    adcCommandByte ((b >>> 4).setWidth 3) = b := by
  have hbits : ∀ i, (b &&& 0x8F#8).getLsbD i = (0x80#8).getLsbD i := fun i => by rw [h]
  unfold adcCommandByte
  ext i hi
  specialize hbits i
  clear h
  interval_cases i <;> simp_all

/-! ### The phase register -/

/-- The most specific row of `(p, k)` (R75): the step row where the phase has one at k, else the phase's own. -/
def rowAt (p : Phase) (k : Nat) : Instr := ((stepRows p)[k]?).getD (phaseRow p)

theorem index_lt {p : Phase} {k : Nat} (hk : k ≤ lastIndex p) : k < 32 := hk.trans_lt (by cases p <;> decide)

theorem decodePhaseWord_of_index {p : Phase} {k : Nat} (hk : k ≤ lastIndex p) :
    decodePhaseWord (phaseCode p * 32 + k) = .ok (rowAt p k) := by
  have hlt := index_lt hk
  rw [decodePhaseWord, show (phaseCode p * 32 + k) / 32 = phaseCode p by omega,
    show (phaseCode p * 32 + k) % 32 = k by omega, Machine.phaseOfCode_phaseCode, rowAt]
  simp only [hk, if_true]
  cases (stepRows p)[k]? <;> rfl

theorem decodePhaseWord_ok {w : Nat} {i : Instr} (h : decodePhaseWord w = .ok i) :
    ∃ p k, k ≤ lastIndex p ∧ w = phaseCode p * 32 + k ∧ i = rowAt p k := by
  cases hp : phaseOfCode (w / 32) with
  | none => simp [decodePhaseWord, hp] at h
  | some p =>
    have hcode := Machine.phaseCode_of_phaseOfCode hp
    have hw : w = phaseCode p * 32 + w % 32 := by omega
    by_cases hk : w % 32 ≤ lastIndex p
    · rw [hw, decodePhaseWord_of_index hk] at h
      exact ⟨p, w % 32, hk, hw, by simpa using h.symm⟩
    · simp [decodePhaseWord, hp, hk] at h

theorem phaseBytes_eq {p : Phase} {k : Nat} (hk : k < 32) :
    phaseBytes p k = [BitVec.ofNat 8 ((phaseCode p * 32 + k) / 256), BitVec.ofNat 8 (phaseCode p * 32 + k)] := by
  rw [phaseBytes, Machine.pcWord_toNat p hk]
  simp [bytesOf, List.range_succ, Nat.shiftRight_eq_div_pow]

theorem decode_phaseBytes {p : Phase} {k : Nat} (hk : k ≤ lastIndex p) :
    decode .phase (phaseBytes p k) = .ok (rowAt p k) := by
  have hlt := index_lt hk
  have hcode := Machine.phaseCode_lt p
  have hhigh : (BitVec.ofNat 8 ((phaseCode p * 32 + k) / 256)).toNat = (phaseCode p * 32 + k) / 256 := by
    rw [BitVec.toNat_ofNat]
    omega
  rw [phaseBytes_eq hlt, decode, hhigh, if_pos (by omega), BitVec.toNat_ofNat, Nat.div_add_mod',
    decodePhaseWord_of_index hk]

/-- Two bytes that hold a phase word are the bytes of that word. -/
theorem phaseBytes_of_toNat {b0 b1 : Byte} {p : Phase} {k : Nat} (hk : k < 32)
    (hw : b0.toNat * 256 + b1.toNat = phaseCode p * 32 + k) : phaseBytes p k = [b0, b1] := by
  rw [phaseBytes_eq hk, ← hw]
  have h0 : BitVec.ofNat 8 ((b0.toNat * 256 + b1.toNat) / 256) = b0 := by
    refine BitVec.eq_of_toNat_eq ?_
    rw [BitVec.toNat_ofNat]
    omega
  have h1 : BitVec.ofNat 8 (b0.toNat * 256 + b1.toNat) = b1 := by
    refine BitVec.eq_of_toNat_eq ?_
    rw [BitVec.toNat_ofNat]
    omega
  rw [h0, h1]

/-! ### The most specific rows -/

/-- A well-formed instruction with these bytes at this place, which no more specific row has (R75). -/
structure Instr.OwnRow (i : Instr) (pl : Place) (bs : List Byte) : Prop where
  wellFormed : i.wellFormed = true
  encodes : encode i = some (pl, bs)
  mostSpecific : i.mostSpecific = i

theorem rowAt_ownRow {p : Phase} {k : Nat} (hk : k ≤ lastIndex p) : (rowAt p k).OwnRow .phase (phaseBytes p k) := by
  cases p with
  | canCfg =>
    change k ≤ 4 at hk
    interval_cases k <;> exact ⟨rfl, rfl, rfl⟩
  | sample =>
    change k ≤ 22 at hk
    interval_cases k <;> exact ⟨rfl, rfl, rfl⟩
  | tx =>
    change k ≤ 5 at hk
    interval_cases k <;> exact ⟨rfl, rfl, rfl⟩
  | idle | canReset | schedInit | stopCheck | clock | store | sleep | shutdown | stopped | failed =>
    obtain rfl := Nat.le_zero.mp hk
    exact ⟨rfl, rfl, rfl⟩

/-- The eight ADC inputs. -/
theorem adcInput_cases {P : BitVec 3 → Prop} (a : BitVec 3) (h0 : P 0) (h1 : P 1) (h2 : P 2) (h3 : P 3) (h4 : P 4)
    (h5 : P 5) (h6 : P 6) (h7 : P 7) : P a := by
  obtain rfl | rfl | rfl | rfl | rfl | rfl | rfl | rfl :
      a = 0 ∨ a = 1 ∨ a = 2 ∨ a = 3 ∨ a = 4 ∨ a = 5 ∨ a = 6 ∨ a = 7 := by
    revert a
    decide
  all_goals assumption

theorem adcInstance_ownRow (a : BitVec 3) (f : Byte) : (adcInstance a f).OwnRow .busAOut [adcCommandByte a, f] := by
  cases a using adcInput_cases <;> exact ⟨rfl, rfl, rfl⟩

theorem canWriteInstance_ownRow (a v : Byte) : (canWriteInstance a v).OwnRow .busB [Config.defOpWrite, a, v] := by
  unfold canWriteInstance
  split_ifs with h1 h2 h3 h4 h5
  · obtain ⟨rfl, rfl⟩ := h1
    exact ⟨rfl, rfl, rfl⟩
  · exact ⟨rfl, by rw [h2, encode], rfl⟩
  · exact ⟨rfl, by rw [h3, encode], rfl⟩
  · exact ⟨rfl, by rw [h4, encode], rfl⟩
  · obtain ⟨rfl, rfl⟩ := h5
    exact ⟨rfl, rfl, rfl⟩
  · have hinstance : canWriteInstance a v = .canWriteCmd a v := by
      rw [canWriteInstance, if_neg h1, if_neg h2, if_neg h3, if_neg h4, if_neg h5]
    exact ⟨rfl, rfl, hinstance⟩

/-! ### The formats -/

theorem decode_adcCommand (a : BitVec 3) (f : Byte) :
    decode .busAOut [adcCommandByte a, f] = .ok (adcInstance a f) := by
  cases a using adcInput_cases <;> rfl

theorem decode_adcAnswer (hi : BitVec 4) (v : Reading) :
    decode .busAIn [(hi.setWidth 8 <<< 4) ||| readingHigh v, readingLow v] = .ok (.adcAnswer hi v) := by
  have hhi : ((((hi.setWidth 8 <<< 4) ||| readingHigh v) >>> 4).setWidth 4 : BitVec 4) = hi := by
    refine BitVec.eq_of_toNat_eq ?_
    rw [highFourBits_toNat, answerHigh_toNat]
    omega
  rw [decode, hhi, readingOf_answer]

theorem decode_muxPattern (sel : BitVec 4) : decode .select [sel.setWidth 8] = .ok (.muxPattern sel) := by
  have hsel : (sel.setWidth 8).toNat = sel.toNat := by
    rw [BitVec.toNat_setWidth]
    omega
  rw [decode, hsel, if_pos sel.isLt, BitVec.setWidth_setWidth_of_le _ (by decide), BitVec.setWidth_eq]

theorem decode_load (id : BitVec 11) {data : List Byte} (hd : data.length ≤ 8) :
    decode .busB (Config.defOpLoadTx0 :: loadHeader id data.length ++ data) = .ok (.canLoadTx0Cmd id data) := by
  have hlow : idLow id &&& 0x1F#8 = 0#8 := by
    rw [lowFiveBits_zero_iff, idLow_toNat]
    omega
  have hlen : (BitVec.ofNat 8 data.length).toNat = data.length := by
    rw [BitVec.toNat_ofNat]
    omega
  have hload : decodeLoad (loadHeader id data.length ++ data) = .ok (.canLoadTx0Cmd id data) := by
    simp only [loadHeader, List.cons_append, List.nil_append, decodeLoad, hlow, hlen, idOf_idBytes]
    exact if_pos ⟨trivial, trivial, trivial, hd, trivial⟩
  exact hload

theorem decode_packedReading (v : Reading) : decode .payload [readingHigh v, readingLow v] = .ok (.rd16Word v) := by
  have hhigh : (readingHigh v).toNat < 16 := by
    rw [readingHigh_toNat]
    omega
  rw [decode, if_pos hhigh, readingOf_packed]

/-! ### Both directions -/

/-- Settles O5: the rows of the phase register are one case, each wire format is one. -/
theorem decodeOfEncode : Obligations.DecodeOfEncode := by
  intro i pl bs hwf henc
  cases i with
  | adcCmd a f =>
    cases henc
    exact decode_adcCommand a f
  | adcCmdA0 | adcCmdA1 | adcCmdA2 | adcCmdA3 | adcCmdA4 | adcCmdA5 | adcCmdA6 | adcCmdA7 =>
    cases henc
    rfl
  | adcAnswer hi v =>
    cases henc
    exact decode_adcAnswer hi v
  | muxPattern sel =>
    cases henc
    exact decode_muxPattern sel
  | canResetCmd | canRts0Cmd | canWriteCmd | canWriteCmdW1 | canWriteCmdW2 | canWriteCmdW3 | canWriteCmdW4
  | canWriteCmdW5 =>
    cases henc
    rfl
  | canLoadTx0Cmd id data =>
    cases henc
    exact decode_load id (of_decide_eq_true hwf)
  | rd16Word v =>
    cases henc
    exact decode_packedReading v
  | pIdle | canReset | canConfigure | schedInit | stopCheck | sampleAll | readClock | storeIfDue | txIfDue
  | loopSleep | shutdown | pStopped | pFailed | cfgWrite1 | cfgWrite2 | cfgWrite3 | cfgWrite4 | cfgWrite5
  | readDirect0 | readDirect1 | readDirect2 | readDirect3 | readDirect4 | readDirect5 | readDirect6
  | readMuxed7 | readMuxed8 | readMuxed9 | readMuxed10 | readMuxed11 | readMuxed12 | readMuxed13 | readMuxed14
  | readMuxed15 | readMuxed16 | readMuxed17 | readMuxed18 | readMuxed19 | readMuxed20 | readMuxed21
  | readMuxed22 | sendChunk0 | sendChunk1 | sendChunk2 | sendChunk3 | sendChunk4 | sendChunk5 =>
    cases henc
    exact decode_phaseBytes (by decide)
  | acq | cfg | csl | wait | xfer | csh | rel | burst | muxSet | readAdc | canInit | sendFrame | pack | split
  | sendReadings | run => cases henc

theorem ownRow_of_decode_phase {bs : List Byte} {i : Instr} (h : decode .phase bs = .ok i) : i.OwnRow .phase bs := by
  match bs, h with
  | [b0, b1], h =>
    by_cases hb : b0.toNat < 2
    · rw [decode, if_pos hb] at h
      obtain ⟨p, k, hk, hw, rfl⟩ := decodePhaseWord_ok h
      rw [← phaseBytes_of_toNat (index_lt hk) hw]
      exact rowAt_ownRow hk
    · rw [decode, if_neg hb] at h
      cases h
  | [], h | [_], h | _ :: _ :: _ :: _, h => cases h

theorem ownRow_of_decode_busAOut {bs : List Byte} {i : Instr} (h : decode .busAOut bs = .ok i) :
    i.OwnRow .busAOut bs := by
  match bs, h with
  | [b0, b1], h =>
    by_cases hb : b0 &&& 0x8F#8 = 0x80#8
    · rw [decode, if_pos hb] at h
      cases h
      simpa only [adcCommandByte_of_pattern hb] using adcInstance_ownRow ((b0 >>> 4).setWidth 3) b1
    · rw [decode, if_neg hb] at h
      cases h
  | [], h | [_], h | _ :: _ :: _ :: _, h => cases h

theorem ownRow_of_decode_busAIn {bs : List Byte} {i : Instr} (h : decode .busAIn bs = .ok i) : i.OwnRow .busAIn bs := by
  match bs, h with
  | [b0, b1], h =>
    cases h
    have h0 : ((((b0 >>> 4).setWidth 4 : BitVec 4).setWidth 8 <<< 4) ||| readingHigh (readingOf b0 b1)) = b0 := by
      refine BitVec.eq_of_toNat_eq ?_
      rw [answerHigh_toNat, highFourBits_toNat, readingOf_toNat]
      omega
    refine ⟨rfl, ?_, rfl⟩
    rw [encode, h0, readingLow_readingOf]
  | [], h | [_], h | _ :: _ :: _ :: _, h => cases h

theorem ownRow_of_decode_select {bs : List Byte} {i : Instr} (h : decode .select bs = .ok i) : i.OwnRow .select bs := by
  match bs, h with
  | [b], h =>
    by_cases hb : b.toNat < 16
    · rw [decode, if_pos hb] at h
      cases h
      have hsel : ((b.setWidth 4 : BitVec 4).setWidth 8 : Byte) = b := by
        refine BitVec.eq_of_toNat_eq ?_
        rw [BitVec.toNat_setWidth, BitVec.toNat_setWidth]
        omega
      refine ⟨rfl, ?_, rfl⟩
      rw [encode, hsel]
    · rw [decode, if_neg hb] at h
      cases h
  | [], h | _ :: _ :: _, h => cases h

theorem ownRow_of_decode_payload {bs : List Byte} {i : Instr} (h : decode .payload bs = .ok i) :
    i.OwnRow .payload bs := by
  match bs, h with
  | [b0, b1], h =>
    by_cases hb : b0.toNat < 16
    · rw [decode, if_pos hb] at h
      cases h
      refine ⟨rfl, ?_, rfl⟩
      rw [encode, readingHigh_readingOf hb, readingLow_readingOf]
    · rw [decode, if_neg hb] at h
      cases h
  | [], h | [_], h | _ :: _ :: _ :: _, h => cases h

theorem ownRow_of_decodeLoad {bs : List Byte} {i : Instr} (h : decodeLoad bs = .ok i) :
    i.OwnRow .busB (Config.defOpLoadTx0 :: bs) := by
  match bs, h with
  | hb :: lb :: e8 :: e0 :: n :: data, h =>
    rw [decodeLoad] at h
    split_ifs at h with hfields
    cases h
    obtain ⟨hlow, rfl, rfl, hmax, hlen⟩ := hfields
    have hn : BitVec.ofNat 8 data.length = n := by rw [hlen, BitVec.ofNat_toNat, BitVec.setWidth_eq]
    refine ⟨decide_eq_true (hlen ▸ hmax), ?_, rfl⟩
    rw [encode, loadHeader, idHigh_idOf, idLow_idOf ((lowFiveBits_zero_iff lb).mp hlow), hn]
    rfl
  | [], h | [_], h | [_, _], h | [_, _, _], h | [_, _, _, _], h => cases h

/-- A command that is no load has its shape alone to decide what it is. -/
theorem ownRow_of_decode_command {op : Byte} {rest : List Byte} {i : Instr} (hload : op ≠ Config.defOpLoadTx0)
    (h : decodeBusB (op :: rest) = .ok i) : i.OwnRow .busB (op :: rest) := by
  simp only [decodeBusB.eq_def, hload, if_false] at h
  split at h
  · split_ifs at h with hreset hrts
    · cases h
      exact ⟨rfl, by rw [hreset, encode], rfl⟩
    · cases h
      exact ⟨rfl, by rw [hrts, encode], rfl⟩
  · split_ifs at h with hwrite
    cases h
    rw [hwrite]
    exact canWriteInstance_ownRow _ _
  · cases h

theorem ownRow_of_decode_busB {bs : List Byte} {i : Instr} (h : decode .busB bs = .ok i) : i.OwnRow .busB bs := by
  match bs, h with
  | [], h => cases h
  | op :: rest, h =>
    by_cases hload : op = Config.defOpLoadTx0
    · subst hload
      exact ownRow_of_decodeLoad h
    · exact ownRow_of_decode_command hload h

theorem ownRow_of_decode {pl : Place} {bs : List Byte} {i : Instr} (h : decode pl bs = .ok i) : i.OwnRow pl bs := by
  cases pl with
  | phase => exact ownRow_of_decode_phase h
  | busAOut => exact ownRow_of_decode_busAOut h
  | busAIn => exact ownRow_of_decode_busAIn h
  | busB => exact ownRow_of_decode_busB h
  | select => exact ownRow_of_decode_select h
  | payload => exact ownRow_of_decode_payload h

/-- Settles O6: place by place, the decoder's own branches. -/
theorem encodeOfDecode : Obligations.EncodeOfDecode := fun _ _ _ h =>
  have hown := ownRow_of_decode h
  ⟨hown.wellFormed, hown.encodes, hown.mostSpecific⟩

/-! ### The formulas of the spec (R55, R57, R62, R65) -/

/-- Settles O1: input by input. -/
theorem adcCommandByteFollowsTheFormula : Obligations.AdcCommandByteFollowsTheFormula := by
  refine ⟨fun a => ?_, rfl⟩
  cases a using adcInput_cases <;> exact ⟨rfl, rfl, rfl, rfl⟩

/-- The four high bits of the first byte are masked before anything else is done with it (R57). -/
theorem readingOf_congr {b0 c0 : Byte} (h : c0 &&& 0x0F#8 = b0 &&& 0x0F#8) (b1 : Byte) :
    readingOf c0 b1 = readingOf b0 b1 := by
  rw [readingOf, readingOf, h]

/-- Settles O2: the formula as a sum, whose two terms have no bit in common. -/
theorem readingExtractionFollowsTheFormula : Obligations.ReadingExtractionFollowsTheFormula := by
  refine fun b0 b1 => ⟨?_, ?_, fun c0 h => readingOf_congr h b1⟩
  · have hmask : b0.toNat &&& 0x0F = b0.toNat % 16 := Nat.and_two_pow_sub_one_eq_mod b0.toNat 4
    rw [readingOf_toNat, hmask, ← Nat.shiftLeft_add_eq_or_of_lt b1.isLt, Nat.shiftLeft_eq]
  · rw [readingOf_toNat]
    omega

/-- Settles O3: the identifier as `8 * high + low / 32`. -/
theorem headerBytesCarryIdentifierAndLength : Obligations.HeaderBytesCarryIdentifierAndLength := by
  intro id len hlen
  have hmask : id.toNat &&& 0x7 = id.toNat % 8 := Nat.and_two_pow_sub_one_eq_mod id.toNat 3
  refine ⟨?_, ?_, ?_, idOf_idBytes id, rfl, ?_⟩
  · rw [idHigh_toNat, Nat.shiftRight_eq_div_pow]
  · rw [idLow_toNat, hmask, Nat.shiftLeft_eq]
  · refine BitVec.eq_of_toNat_eq ?_
    rw [BitVec.extractLsb'_toNat, idLow_toNat, Nat.shiftRight_zero]
    change _ = 0
    omega
  · rw [BitVec.toNat_ofNat]
    omega

/-- Settles O4: quotient and remainder by 256. -/
theorem packedReadingBytesDecodeBack : Obligations.PackedReadingBytesDecodeBack := by
  intro v
  have hmask : v.toNat &&& 0xFF = v.toNat % 256 := Nat.and_two_pow_sub_one_eq_mod v.toNat 8
  have hlow : v.toNat % 256 < 2 ^ 8 := by omega
  rw [readingHigh_toNat, readingLow_toNat, hmask, Nat.shiftRight_eq_div_pow, ← Nat.shiftLeft_add_eq_or_of_lt hlow,
    Nat.shiftLeft_eq]
  refine ⟨rfl, ?_, rfl, ?_⟩ <;> omega

/-- Settles O7: each word is evaluated. -/
theorem writtenOutWordsDecode : Obligations.WrittenOutWordsDecode :=
  ⟨rfl, rfl, rfl, rfl, rfl, rfl, rfl, by decide, by decide⟩

end Sys2Proof

/-! ## Words run as operations (logs 10, 16) -/

namespace Sys2Proof.Machine

/-! ### A word placed from outside (log 10) -/

theorem eq_ok_of_toOption {r : Except DecodeError Instr} {i : Instr} (h : r.toOption = some i) : r = .ok i := by
  cases r with
  | error => cases h
  | ok => exact congrArg _ (Option.some.inj h)

theorem step_of_word {s : State} {nbits w : Nat} {i : Instr} {rest : List Frame} (hl : s.agenda = .word nbits w :: rest)
    (h : decodeTableWord nbits w = some i) : step s = exec i { s with agenda := rest } := by
  simp only [step, hl, h]

/-- Settles O9: the word stands in the phase register where that reads it as the same row, else in the agenda. -/
theorem stepRunsThePlacedWord : Obligations.StepRunsThePlacedWord := by
  intro s nbits w i h
  unfold State.withFetchWord
  dsimp only
  split_ifs with hpc
  · simp only [Bool.and_eq_true, decide_eq_true_eq] at hpc
    obtain ⟨-, hrow⟩ := hpc
    exact ⟨_, .inr rfl, step_of_decodePc rfl (eq_ok_of_toOption (hrow.trans h))⟩
  · exact ⟨s.pc, .inl rfl, step_of_word rfl h⟩

/-! ### The data words (R57, R58, R65) -/

theorem exec_adcAnswer (hi : BitVec 4) (v : Reading) (s : State) :
    exec (.adcAnswer hi v) s = .next (settle s.agenda
      { s with ret := .reading v,
               rx := [BitVec.ofNat 8 (hi.toNat * 16 + v.toNat / 256), BitVec.ofNat 8 v.toNat] }) := by
  rw [← answerHigh_toNat, BitVec.ofNat_toNat, BitVec.setWidth_eq]
  change execAdcAnswer hi v s = _
  rw [execAdcAnswer, readingOf_answer]
  rfl

theorem exec_rd16Word (v : Reading) (s : State) :
    exec (.rd16Word v) s = .next (settle s.agenda
      { s with ret := .bytes [BitVec.ofNat 8 (v.toNat / 256), BitVec.ofNat 8 v.toNat] }) := by
  rw [← readingHigh_toNat, BitVec.ofNat_toNat, BitVec.setWidth_eq]
  rfl

theorem exec_muxPattern {s : State} (sel : BitVec 4) (hc : s.Calm) :
    ∃ e, exec (.muxPattern sel) s = .next (settle s.agenda
      { s with env := e, muxsel := sel, trace := s.trace ++ [.mux sel] }) := by
  refine ⟨s.passed.env, ?_⟩
  have h := opSetMux_calm (sel := sel) hc
  rw [passed_eq s] at h
  exact h

/-- Settles O19: one equation for each of the three words. -/
theorem dataWordsConvert : Obligations.DataWordsConvert :=
  fun hi sel v s => ⟨exec_adcAnswer hi v s, exec_rd16Word v s, exec_muxPattern sel⟩

/-! ### The command words (R55, R56, R59 to R64) -/

section
variable {s : State} {tx rs : List Byte}

/-- A burst to the ADC (R86), which leaves the lock as it was: free. -/
theorem adcBurst_runs {after : List Frame} (hlen : rs.length = tx.length) (hh : s.heldA = false)
    (hc : s.CalmFor (tx.length + 6)) (hg : s.Grants 1 .busA) (ha : s.Answers rs) :
    ∃ e t, s.Spends .busA e (tx.length + 6) 1 rs.length ∧ opAdcBurst tx after s = .next t ∧
      Host.Core.run Sys2Proof.core (tx.length + 5) t = .next (settle (after ++ s.agenda)
        { s with env := e, rx := rs, cfgvA := true, adcCsn := true, waited := s.waited + 1,
                 trace := s.trace ++ burstEvents s.params .busA .adc 1 tx rs }) := by
  obtain ⟨e, t, hspent, hburst, hrun⟩ := burst_runs (s := s.push after) (d := .adc) (setup := 1) hlen hh hc hg ha
  refine ⟨e, t, ⟨hspent.fault, hspent.grants, hspent.rx⟩, hburst, hrun.trans ?_⟩
  rw [← settle_withAgenda (after ++ s.agenda) (after ++ s.agenda)]
  simp [State.push, State.setHeld, State.setCfgv, State.setCsn, Device.bus, hh]

end

/-- An instruction that is one ADC burst, followed by silent actions or none, runs as that burst (R86). -/
theorem adcCommandRuns_of_burst {i : Instr} {tx : Config.Params → List Byte} {upd : List Byte → State → State}
    (after : List Frame) (hi : ∀ s, exec i s = opAdcBurst (tx s.params) after s) (hlen : ∀ p, (tx p).length = 2)
    (hupd : ∀ rs l s, rs.length = 2 → s.rx = rs → settle (after ++ l) s = settle l (upd rs s)) :
    AdcCommandRuns i tx upd := by
  intro s rs hh hc hg ha hrs
  have htx := hlen s.params
  obtain ⟨e, t, -, hexec, hrun⟩ := adcBurst_runs (after := after) (hrs.trans htx.symm) hh (by rwa [htx]) hg ha
  rw [htx] at hrun
  exact ⟨e, t, (hi s).trans hexec, hrun.trans (congrArg _ (hupd rs _ _ hrs rfl))⟩

/-- A word that is one ADC burst and nothing else (log 16). -/
theorem adcWord_runs {i : Instr} {b f : Byte} (hi : ∀ s, exec i s = opAdcBurst [b, f] [] s) :
    AdcCommandRuns i (fun _ => [b, f]) (fun _ t => t) :=
  adcCommandRuns_of_burst [] hi (fun _ => rfl) (fun _ _ _ _ _ => rfl)

/-- Settles O18: each word's meaning is the burst of its two bytes. -/
theorem adcCommandWordsSend : Obligations.AdcCommandWordsSend := fun _ =>
  ⟨fun _ => adcWord_runs fun _ => rfl, adcWord_runs fun _ => rfl, adcWord_runs fun _ => rfl,
    adcWord_runs fun _ => rfl, adcWord_runs fun _ => rfl, adcWord_runs fun _ => rfl, adcWord_runs fun _ => rfl,
    adcWord_runs fun _ => rfl, adcWord_runs fun _ => rfl⟩

/-- An instruction that is one burst to the CAN controller, followed by silent actions or none, runs as that burst. -/
theorem canCommandRuns_of_burst {i : Instr} {tx : Config.Params → List Byte} {upd : Config.Params → State → State}
    (after : Config.Params → List Frame) (hi : ∀ s, exec i s = opCanBurst (tx s.params) (after s.params) s)
    (hupd : ∀ p l s, settle (after p ++ l) s = settle l (upd p s)) : CanCommandRuns i tx upd := by
  intro s rs hh hc hg ha hlen
  obtain ⟨e, t, -, hexec, hrun⟩ := canBurst_runs (after := after s.params) hlen hh hc hg ha
  exact ⟨e, t, (hi s).trans hexec, hrun.trans (congrArg _ (hupd _ _ _))⟩

/-- A word that writes a register of the controller (R60, R96). -/
theorem canWriteWord_runs {i : Instr} {a v : Config.Params → Byte}
    (hi : ∀ s, exec i s = opCanWrite (a s.params) (v s.params) [] s) :
    CanCommandRuns i (fun p => [p.opWrite, a p, v p])
      (fun p t => { t with canRegs := t.canRegs.set (a p).toNat (v p) }) :=
  canCommandRuns_of_burst (fun p => [.act (.noteReg (a p) (v p))]) hi (fun _ _ _ => rfl)

/-- Settles O24: the opcodes alone, and the writes with the addresses and values of R97. -/
theorem canCommandWordsSend : Obligations.CanCommandWordsSend :=
  ⟨canCommandRuns_of_burst (fun _ => []) (fun _ => rfl) (fun _ _ _ => rfl),
    fun a v => canWriteWord_runs (a := fun _ => a) (v := fun _ => v) fun _ => rfl,
    canWriteWord_runs fun _ => rfl,
    fun v => canWriteWord_runs (v := fun _ => v) fun _ => rfl,
    fun v => canWriteWord_runs (v := fun _ => v) fun _ => rfl,
    fun v => canWriteWord_runs (v := fun _ => v) fun _ => rfl,
    canWriteWord_runs fun _ => rfl,
    canCommandRuns_of_burst (fun _ => []) (fun _ => rfl) (fun _ _ _ => rfl)⟩

/-- The load of transmit buffer 0 (R101), in the bursts TX_LOAD_SPLIT asks for. -/
theorem load_runs {s : State} {id : BitVec 11} {data rs : List Byte} {after : List Frame}
    (hlen : rs.length = 6 + data.length) (hh : s.heldB = false) (hc : s.CalmFor (data.length + 16))
    (hg : s.Grants 2 .busB) (ha : s.Answers rs) :
    ∃ e t, opLoadTx0 id data after s = .next t ∧
      Host.Core.run Sys2Proof.core ((loadEvents s.params id data rs).length - 1) t =
        .next (settle (.act (.noteTx (loadHeader id data.length ++ data)) :: (after ++ s.agenda))
          { s with env := e, rx := if s.params.txLoadSplit then rs.drop 1 else rs, cfgvB := true, canCsn := true,
                   trace := s.trace ++ loadEvents s.params id data rs }) := by
  rw [loadEvents_length hlen]
  cases hw : s.params.txLoadSplit with
  | false =>
    obtain ⟨e, t, -, h⟩ := load_runs_whole (id := id) (after := after) hw hlen hh (hc.mono (by omega))
      (hg.mono (by omega)) ha
    exact ⟨e, t, h⟩
  | true =>
    obtain ⟨e, t, -, h⟩ := load_runs_split (id := id) (after := after) hw hlen hh hc hg ha
    exact ⟨e, t, h⟩

/-- Settles O25: the word is its load, with the record written after the last burst. -/
theorem loadWordSends : Obligations.LoadWordSends := by
  intro id data rs s hd hlen hh hc hg ha
  have hexec : exec (.canLoadTx0Cmd id data) s = opLoadTx0 id data [] s := if_pos (decide_eq_true hd)
  obtain ⟨e, t, hload, hrun⟩ := load_runs (id := id) (after := []) hlen hh (hc.mono (by omega)) hg ha
  exact ⟨loadEvents_length hlen, e, t, hexec.trans hload, hrun⟩

/-! ### The bursts in a trace (R71, R126) -/

/-- The exchanges of an open burst add their bytes to it. -/
theorem burstBytes_xfers {tx rs : List Byte} (hlen : rs.length = tx.length) (l : List Byte) (rest : List Event) :
    burstBytes (List.zipWith (fun t r => .xfer .busB t r) tx rs ++ rest) (some l) =
      burstBytes rest (some (l ++ tx)) := by
  induction tx generalizing rs l with
  | nil => simp
  | cons t tx ih =>
    obtain ⟨b, rs, rfl⟩ := List.exists_cons_of_length_eq_add_one hlen
    rw [List.zipWith_cons_cons, List.cons_append, burstBytes, ih (Nat.succ.inj hlen), List.append_assoc,
      List.singleton_append]

/-- A burst to the CAN controller shows its bytes. -/
theorem burstBytes_canEvents {p : Config.Params} {tx rs : List Byte} (hlen : rs.length = tx.length)
    (rest : List Event) : burstBytes (canEvents p tx rs ++ rest) none = tx :: burstBytes rest none := by
  have hsplit : canEvents p tx rs ++ rest =
      .acq .busB :: .cfg .busB (busRate p .busB).1 (busRate p .busB).2 :: .csl .can ::
        (List.zipWith (fun t r => .xfer .busB t r) tx rs ++ .csh .can :: .rel .busB :: rest) := by
    simp [canEvents, burstEvents]
  rw [hsplit]
  simp only [burstBytes, burstBytes_xfers hlen, List.nil_append]

theorem burstBytes_interframe {p : Config.Params} {k : Nat} (rest : List Event) :
    burstBytes (interframeEvents p k ++ rest) none = burstBytes rest none := by
  unfold interframeEvents
  split
  · rfl
  · rfl

/-- The bytes of the two commands of chunk k: the load in one burst, and the request-to-send (R101, R102, R126). -/
def chunkBursts (p : Config.Params) (payload : List Byte) (k : Nat) : List (List Byte) :=
  [p.opLoadTx0 :: loadHeader (BitVec.ofNat 11 (0x100 + k)) (chunkOf payload k).length ++ chunkOf payload k, [p.opRts0]]

theorem burstBytes_chunkEvents {p : Config.Params} {payload rs : List Byte} {k : Nat} (hw : p.txLoadSplit = false)
    (hlen : rs.length = 7 + (chunkOf payload k).length) (rest : List Event) :
    burstBytes (chunkEvents p payload k rs ++ rest) none =
      chunkBursts p payload k ++ burstBytes rest none := by
  have hload : (rs.take (6 + (chunkOf payload k).length)).length =
      (p.opLoadTx0 :: (loadHeader (BitVec.ofNat 11 (0x100 + k)) (chunkOf payload k).length ++
        chunkOf payload k)).length := by
    rw [List.length_take, List.length_cons, load_length]
    omega
  have hrts : (rs.drop (6 + (chunkOf payload k).length)).length = [p.opRts0].length := by
    rw [List.length_drop, List.length_singleton]
    omega
  simp only [chunkEvents, frameEvents, loadEvents, hw, Bool.false_eq_true, if_false, List.append_assoc,
    burstBytes_canEvents hload, burstBytes_canEvents hrts, burstBytes_interframe]
  rfl

/-- Where every part of a trace shows its bursts whatever follows it, the trace shows those of its parts in order. -/
theorem burstBytes_flatMap {ks : List Nat} {f : Nat → List Event} {g : Nat → List (List Byte)}
    (h : ∀ k ∈ ks, ∀ rest, burstBytes (f k ++ rest) none = g k ++ burstBytes rest none) :
    burstBytes (ks.flatMap f) none = ks.flatMap g := by
  induction ks with
  | nil => rfl
  | cons k ks ih =>
    rw [List.flatMap_cons, List.flatMap_cons, h k List.mem_cons_self,
      ih fun j hj => h j (List.mem_cons_of_mem k hj)]

theorem payloadOf_length (v : List Reading) : (payloadOf v).length = 2 * v.length := by
  simp [payloadOf, List.length_flatMap, Nat.mul_comm]

theorem chunkOf_length (payload : List Byte) (k : Nat) :
    (chunkOf payload k).length = min 8 (payload.length - 8 * k) := by
  rw [chunkOf, List.length_take, List.length_drop]

/-- Six chunks of eight bytes hold the 46 bytes of 23 readings, so the 88 answers reach to the last request-to-send. -/
theorem burstBytes_sendEvents {p : Config.Params} {v : List Reading} {rs : List Byte} (hw : p.txLoadSplit = false)
    (hv : v.length = 23) (hrs : rs.length = 88) :
    burstBytes (sendEvents p (payloadOf v) rs) none = (List.range 6).flatMap (chunkBursts p (payloadOf v)) := by
  refine burstBytes_flatMap fun k hk rest => burstBytes_chunkEvents hw ?_ rest
  have hk : k < 6 := List.mem_range.mp hk
  rw [List.length_take, List.length_drop, chunkOf_length, payloadOf_length]
  omega

theorem decode_chunkBursts {p : Config.Params} (hload : p.opLoadTx0 = Config.defOpLoadTx0)
    (hrts : p.opRts0 = Config.defOpRts0) (payload : List Byte) (k : Nat) :
    (chunkBursts p payload k).map (decode .busB) =
      [.ok (.canLoadTx0Cmd (BitVec.ofNat 11 (0x100 + k)) (chunkOf payload k)), .ok .canRts0Cmd] := by
  have hlen : (chunkOf payload k).length ≤ 8 := List.length_take_le _ _
  rw [chunkBursts, hload, hrts, List.map_cons, decode_load _ hlen]
  rfl

/-- Settles O46: chunk by chunk, the two bursts of its frame, each of which is one command. -/
theorem transmittedBurstsDecode : Obligations.TransmittedBurstsDecode := by
  intro p v rs hv hrs hload hrts hw
  rw [burstBytes_sendEvents hw hv hrs, List.map_flatMap]
  exact List.flatMap_congr fun k _ => decode_chunkBursts hload hrts (payloadOf v) k

end Sys2Proof.Machine

/-! ## The primitives and the burst of an SPI transaction (R76 to R84) -/

namespace Sys2Proof.Machine

theorem burstEvents_length {p : Config.Params} {bus : Bus} {d : Device} {setup : Nat} {tx rs : List Byte}
    (hlen : rs.length = tx.length) :
    (burstEvents p bus d setup tx rs).length = tx.length + if 0 < setup then 6 else 5 := by
  unfold burstEvents
  split <;> simp [hlen]

/-- Settles O17: the chain of primitives in `burst_runs`, with the count of its events. -/
theorem burstRuns : Obligations.BurstRuns := by
  rintro _ d setup tx rs s rfl htx hlen hh hc hg ha
  have hsteps : tx.length + (if 0 < setup then 6 else 5) - 1 = tx.length + 4 + if 0 < setup then 1 else 0 := by
    split <;> omega
  obtain ⟨e, t, -, hburst, hrun⟩ := burst_runs (setup := setup) hlen hh (hc.mono (by split <;> omega)) hg ha
  have hexec : exec (.burst d.bus d setup tx) s = opBurst d.bus d setup tx s := if_pos (by simp [Instr.wellFormed, htx])
  refine ⟨burstEvents_length hlen, e, t, hexec.trans hburst, ?_⟩
  rwa [burstEvents_length hlen, hsteps]

/-- A request of a lock, after the boundary, changes the environment alone. -/
theorem usedGrant_passed_eq (s : State) (bus : Bus) :
    s.passed.usedGrant bus = { s with env := (s.passed.usedGrant bus).env } := by
  unfold State.passed
  split <;> cases bus <;> rfl

theorem exec_acq_granted {bus : Bus} {s : State} (hc : s.Calm) (hh : s.held bus = false)
    (hg : s.passed.grantIn bus = true) :
    ∃ e, exec (.acq bus) s = .next (settle s.agenda
      { (s.setHeld true bus).setCfgv false bus with env := e, rx := [], trace := s.trace ++ [.acq bus] }) := by
  refine ⟨(s.passed.usedGrant bus).env, ?_⟩
  have h := opAcquire_calm (bus := bus) hc
  rw [hg, hh, Bool.not_false, Bool.and_true, if_pos rfl, usedGrant_passed_eq] at h
  cases bus <;> exact h

/-- The lock is not granted: the acquisition is asked for again (logs 1, 14). -/
theorem exec_acq_busy {bus : Bus} {s : State} (hc : s.Calm) (hg : s.passed.grantIn bus = false) :
    ∃ e, exec (.acq bus) s = .next { s with env := e, agenda := .op (.acq bus) :: s.agenda } := by
  refine ⟨(s.passed.usedGrant bus).env, ?_⟩
  have h := opAcquire_calm (bus := bus) hc
  rw [hg, Bool.false_and, if_neg Bool.false_ne_true, usedGrant_passed_eq] at h
  exact h

/-- Settles O10: the two answers of the lock. -/
theorem acquireTakesOrHolds : Obligations.AcquireTakesOrHolds :=
  fun _ _ hc hh => ⟨exec_acq_granted hc hh, exec_acq_busy hc⟩

/-- Settles O11: the rate and mode of `busRate` are read bus by bus. -/
theorem heldBusIsConfiguredAndReleased : Obligations.HeldBusIsConfiguredAndReleased := by
  refine fun bus s hc hh => ⟨?_, fun hs => ?_⟩
  · obtain ⟨e, -, hcfg⟩ := exec_cfg hc hh
    refine ⟨e, ?_⟩
    cases bus <;> exact hcfg
  · obtain ⟨e, -, hrel⟩ := exec_rel hc hh hs
    exact ⟨e, hrel⟩

/-- Settles O12: each select as its primitive drives it. -/
theorem chipSelectsMove : Obligations.ChipSelectsMove := by
  refine fun d s hc => ⟨fun hh hv => ?_, ?_⟩
  · obtain ⟨e, -, hcsl⟩ := exec_csl (bus := d.bus) hc hh hv
    exact ⟨e, hcsl⟩
  · obtain ⟨e, -, hcsh⟩ := exec_csh (bus := d.bus) hc
    exact ⟨e, hcsh⟩

/-- Settles O13: the byte is the draw, whether `env` lists it or not. -/
theorem exchangeDrawsAByte : Obligations.ExchangeDrawsAByte := by
  intro bus tx s hc hh hv hs
  have h := opXfer_calm (tx := tx) hc hh hv hs
  refine ⟨s.passed.usedRx.env, h.trans ?_⟩
  generalize s.passed.rxIn = b
  rw [passed_eq s]
  rfl

/-- Settles O14: a wait of at least 1 µs meets nothing but its boundary. -/
theorem waitIsKeptForTheClock : Obligations.WaitIsKeptForTheClock := by
  intro t s hc ht
  obtain ⟨e, -, hwait⟩ := exec_wait (bus := .busA) hc ht
  exact ⟨e, hwait⟩

end Sys2Proof.Machine

/-! ## The Analog Sampler: READ_ADC, the 23 reads and SAMPLE_ALL (R85 to R91)

A read moves the phase register, so one read follows another in a state of another `pc`: `Env.Uses` says of the environments
alone which draws a read has used. -/

namespace Sys2Proof.Machine

/-! ### The select lines (R85) -/

/-- Settles O15: the select pattern of R58 is the same operation. -/
theorem selectLinesTakeThePattern : Obligations.SelectLinesTakeThePattern :=
  fun sel _ hc => exec_muxPattern sel hc

/-! ### READ_ADC (R86) -/

/-- Settles O20: the burst of the two bytes, then the answer decoded. -/
theorem readAdcReturnsTheReading : Obligations.ReadAdcReturnsTheReading := by
  refine fun a => adcCommandRuns_of_burst [.act .answer] (fun _ => rfl) (fun _ => rfl) fun rs l s hrs hrx => ?_
  obtain ⟨b₀, b₁, rfl⟩ := List.length_eq_two.mp hrs
  have hanswer : doAct s .answer = { s with ret := .reading (answerOf [b₀, b₁]) } := by
    rw [doAct, hrx]
    rfl
  rw [List.singleton_append, settle_act, hanswer]

/-! ### The draws of a run that moves the phase register -/

/-- From `e₀`, `f` boundaries have been passed where conditions may be signalled, `g` requests of `bus` answered and `r` bytes
received, and `e` is left. -/
structure Env.Uses (e₀ : Env) (bus : Bus) (e : Env) (f g r : Nat) : Prop where
  fault : e.fault = e₀.fault.drop f
  grants : e.grants bus = (e₀.grants bus).drop g
  rx : e.rx = e₀.rx.drop r

section
variable {s u : State} {bus : Bus} {e₀ e₁ e : Env} {f g r f' g' r' n : Nat}

theorem State.Spends.uses (h : s.Spends bus e f g r) (hw : s.window ≠ .outside) : s.env.Uses bus e f g r :=
  ⟨h.fault hw, h.grants, h.rx⟩

theorem Env.Uses.trans (h : e₀.Uses bus e₁ f g r) (h' : e₁.Uses bus e f' g' r') :
    e₀.Uses bus e (f + f') (g + g') (r + r') where
  fault := by rw [h'.fault, h.fault, List.drop_drop]
  grants := by rw [h'.grants, h.grants, List.drop_drop]
  rx := by rw [h'.rx, h.rx, List.drop_drop]

theorem State.NoFault.mono {m : Nat} (h : s.NoFault n) (hmn : m ≤ n) : s.NoFault m := by
  rw [State.NoFault, ← Nat.add_sub_cancel' hmn, List.replicate_add] at h
  exact (List.prefix_append _ _).trans h

theorem Env.Uses.noFault (h : s.env.Uses bus u.env f g r) (hf : s.NoFault (f + n)) : u.NoFault n := by
  rw [State.NoFault, h.fault]
  exact replicate_prefix_drop hf

theorem Env.Uses.grants_of (h : s.env.Uses bus u.env f g r) (hg : s.Grants (g + n) bus) : u.Grants n bus := by
  rw [grants_iff] at hg ⊢
  rw [h.grants]
  exact replicate_prefix_drop hg

theorem Env.Uses.answers {rs : List Byte} (h : s.env.Uses bus u.env f g r) (ha : s.Answers rs) :
    u.Answers ((rs.drop r).take n) := by
  rw [State.Answers, h.rx]
  exact (List.take_prefix _ _).trans (List.IsPrefix.drop ha r)

/-! ### One read (R87 to R89) -/

/-- Conditions may be signalled in P_SAMPLE (R138). -/
theorem window_of_sample {k : Nat} (hk : k < 23) (hpc : s.pc = pcWord .sample k) : s.window ≠ .outside := by
  rw [State.window, hpc, pcPhase_pcWord .sample (by omega)]
  decide

theorem exec_muxSet (sel : BitVec 4) (hc : s.Calm) :
    ∃ e, s.Spends bus e 1 0 0 ∧ exec (.muxSet sel) s = .next (settle s.agenda
      { s with env := e, muxsel := sel, trace := s.trace ++ [.mux sel] }) := by
  refine ⟨s.passed.env, spends_passed s bus, ?_⟩
  have h := opSetMux_calm (sel := sel) hc
  rw [passed_eq s] at h
  exact h

/-- `x[k] <- ReadAdc(a)`, then `pc <- w` (R88, R89): the transaction, and the two silent actions that end a read. -/
theorem readAdc_stores {a : BitVec 3} {k : Fin 23} {w : BitVec 9} {l : List Frame} {rs : List Byte}
    (hl : s.agenda = .act (.writeX k) :: .act (.setPc w) :: l) (hh : s.heldA = false) (hc : s.CalmFor 8)
    (hg : s.Grants 1 .busA) (ha : s.Answers rs) (hrs : rs.length = 2) :
    ∃ e t, s.Spends .busA e 8 1 2 ∧ exec (.readAdc a) s = .next t ∧
      Host.Core.run Sys2Proof.core 7 t = .next (settle l
        { s with env := e, x := s.x.set k (some (answerOf rs)), rx := rs, ret := .reading (answerOf rs), cfgvA := true,
                 adcCsn := true, waited := s.waited + 1, pc := w, trace := s.trace ++ adcEvents s.params a rs }) := by
  obtain ⟨e, t, hspent, hexec, hrun⟩ := adcBurst_runs (tx := adcBytes s.params a) (after := [.act .answer])
    hrs hh hc hg ha
  obtain ⟨b₀, b₁, rfl⟩ := List.length_eq_two.mp hrs
  refine ⟨e, t, hspent, hexec, ?_⟩
  rw [hl] at hrun ⊢
  exact hrun

/-- What the read of channel k leaves, `rs` its two answer bytes (R88, R89, R18). -/
def State.afterRead (s : State) (k : Fin 23) (rs : List Byte) (e : Env) : State :=
  { s with env := e, x := s.x.set k (some (answerOf rs)), rx := rs, ret := .reading (answerOf rs),
           cfgvA := true, adcCsn := true,
           muxsel := if k.val < 7 then s.muxsel else BitVec.ofNat 4 (k.val - 7),
           waited := s.waited + (if k.val < 7 then 1 else 51), pc := nextSample k.val,
           trace := s.trace ++ readEvents s.params k.val rs }

/-- The read of a direct channel (R88): one transaction from its phase register on. -/
theorem opReadDirect_runs {j : Fin 7} {rs : List Byte} (hh : s.heldA = false) (hf : s.NoFault 8) (hg : s.Grants 1 .busA)
    (ha : s.Answers rs) (hrs : rs.length = 2) :
    ∃ e t, s.env.Uses .busA e 8 1 2 ∧ opReadDirect j s = .next t ∧
      Host.Core.run Sys2Proof.core 7 t =
        .next (settle s.agenda (s.afterRead (j.castLE (by decide)) rs e)) := by
  let u := (s.setPc .sample j.val).push [.act (.writeX (j.castLE (by decide))), .act (.setPc (nextSample j.val))]
  obtain ⟨e, t, hspent, hexec, hrun⟩ := readAdc_stores (s := u) (a := BitVec.ofNat 3 (j.val + 1)) rfl hh (.inr hf)
    hg ha hrs
  refine ⟨e, t, hspent.uses (window_of_sample (k := j.val) (by omega) rfl), hexec, hrun.trans ?_⟩
  rw [← settle_withAgenda _ s.agenda]
  simp [u, State.afterRead, readEvents, State.push, State.setPc]

/-- The read of a multiplexed channel (R89): the select lines, the settling wait, one transaction with input 0. -/
theorem opReadMuxed_runs {j : Fin 16} {rs : List Byte} (hh : s.heldA = false) (hf : s.NoFault 10) (hg : s.Grants 1 .busA)
    (ha : s.Answers rs) (hrs : rs.length = 2) :
    ∃ e t, s.env.Uses .busA e 10 1 2 ∧ opReadMuxed j s = .next t ∧
      Host.Core.run Sys2Proof.core 9 t =
        .next (settle s.agenda (s.afterRead ⟨j.val + 7, by omega⟩ rs e)) := by
  let ends := Frame.act (.writeX ⟨j.val + 7, by omega⟩) :: .act (.setPc (nextSample (j.val + 7))) :: s.agenda
  let u : State := { s.setPc .sample (j.val + 7) with
    agenda := .op (.wait Config.tMuxSettle) :: .op (.readAdc Config.muxAdcInput) :: ends }
  have hc : u.CalmFor 10 := .inr hf
  obtain ⟨e₁, h₁, hmux⟩ := exec_muxSet (bus := .busA) (s := u) (BitVec.ofNat 4 j.val) hc.calm
  let u₁ : State := { u with
    env := e₁, muxsel := BitVec.ofNat 4 j.val, trace := u.trace ++ [.mux (BitVec.ofNat 4 j.val)],
    agenda := .op (.readAdc Config.muxAdcInput) :: ends }
  have hspent₁ : u.Spends .busA u₁.env 1 0 0 := h₁
  obtain ⟨e₂, h₂, hwait⟩ := exec_wait (bus := .busA) (s := u₁) (n := 50) (hspent₁.calmFor (n := 9) rfl hc).calm (by decide)
  let u₂ : State := { u₁ with
    env := e₂, waited := u₁.waited + 50, trace := u₁.trace ++ [.wait 50], agenda := ends }
  have hspent₂ : u.Spends .busA u₂.env 2 0 0 := hspent₁.trans rfl h₂
  obtain ⟨e, t, h₃, hread, hrun⟩ := readAdc_stores (s := u₂) (a := Config.muxAdcInput) rfl hh (hspent₂.calmFor rfl hc)
    (hspent₂.grants_of hg) (hspent₂.answers (rs := []) ha) hrs
  refine ⟨e, _, (hspent₂.trans rfl h₃).uses (window_of_sample (k := j.val + 7) (by omega) rfl), hmux, ?_⟩
  refine (run_cons (s := u₁) hwait (run_cons (s := u₂) hread hrun)).trans ?_
  rw [← settle_withAgenda _ s.agenda]
  simp [u, u₁, u₂, State.afterRead, readEvents, adcEvents, State.setPc, Config.muxAdcInput, Nat.add_assoc]

/-- The rows of the direct channels (R88). -/
theorem exec_directRow {i : Instr} {j : Fin 7} (hi : sampleRows[j.val]? = some i) (s : State) :
    exec i s = opReadDirect j s := by
  fin_cases j <;> cases hi <;> rfl

/-- The rows of the multiplexed channels (R89). -/
theorem exec_muxedRow {i : Instr} {j : Fin 16} (hi : sampleRows[j.val + 7]? = some i) (s : State) :
    exec i s = opReadMuxed j s := by
  fin_cases j <;> cases hi <;> rfl

/-- The read of channel k (R87 to R89) with the draws it uses. -/
theorem channelRow_runs {i : Instr} {k : Fin 23} {rs : List Byte} (hi : sampleRows[k.val]? = some i)
    (hh : s.heldA = false) (hf : s.NoFault 10) (hg : s.Grants 1 .busA) (ha : s.Answers rs) (hrs : rs.length = 2) :
    ∃ e t, s.env.Uses .busA e (if k.val < 7 then 8 else 10) 1 2 ∧ exec i s = .next t ∧
      Host.Core.run Sys2Proof.core (if k.val < 7 then 7 else 9) t = .next (settle s.agenda (s.afterRead k rs e)) := by
  by_cases hk : k.val < 7
  · simp only [if_pos hk]
    rw [exec_directRow (j := ⟨k.val, hk⟩) hi]
    exact opReadDirect_runs hh (hf.mono (by omega)) hg ha hrs
  · obtain ⟨k, hlt⟩ := k
    obtain ⟨j, rfl⟩ := Nat.exists_eq_add_of_le' (Nat.le_of_not_lt hk)
    simp only [if_neg hk]
    rw [exec_muxedRow (j := ⟨j, by omega⟩) hi]
    exact opReadMuxed_runs hh hf hg ha hrs

/-- The read of channel k as the next operation in progress. -/
theorem run_channelRow {i : Instr} {k : Fin 23} {rs : List Byte} {l : List Frame} (hi : sampleRows[k.val]? = some i)
    (hh : s.heldA = false) (hf : s.NoFault 10) (hg : s.Grants 1 .busA) (ha : s.Answers rs) (hrs : rs.length = 2) :
    ∃ e, s.env.Uses .busA e (if k.val < 7 then 8 else 10) 1 2 ∧
      Host.Core.run Sys2Proof.core (if k.val < 7 then 8 else 10) { s with agenda := .op i :: l } =
        .next (settle l (s.afterRead k rs e)) := by
  obtain ⟨e, t, huses, hexec, hrun⟩ := channelRow_runs (s := { s with agenda := l }) hi hh hf hg ha hrs
  have hsteps : (if k.val < 7 then 8 else 10) = (if k.val < 7 then 7 else 9) + 1 := by split <;> rfl
  refine ⟨e, huses, ?_⟩
  rw [← settle_withAgenda l l, hsteps]
  exact run_cons hexec hrun

end

theorem readRuns_of_channelRow {i : Instr} {k : Fin 23} (hi : sampleRows[k.val]? = some i) : ReadRuns i k := by
  intro s rs hh hf hg ha hrs
  obtain ⟨e, t, -, hexec, hrun⟩ := channelRow_runs hi hh hf hg ha hrs
  exact ⟨e, t, hexec, hrun⟩

/-- Settles O21: the channels 0 to 6. -/
theorem directReadsRun : Obligations.DirectReadsRun :=
  ⟨readRuns_of_channelRow rfl, readRuns_of_channelRow rfl, readRuns_of_channelRow rfl, readRuns_of_channelRow rfl,
    readRuns_of_channelRow rfl, readRuns_of_channelRow rfl, readRuns_of_channelRow rfl⟩

/-- Settles O22: the channels 7 to 22. -/
theorem muxedReadsRun : Obligations.MuxedReadsRun :=
  ⟨readRuns_of_channelRow rfl, readRuns_of_channelRow rfl, readRuns_of_channelRow rfl, readRuns_of_channelRow rfl,
    readRuns_of_channelRow rfl, readRuns_of_channelRow rfl, readRuns_of_channelRow rfl, readRuns_of_channelRow rfl,
    readRuns_of_channelRow rfl, readRuns_of_channelRow rfl, readRuns_of_channelRow rfl, readRuns_of_channelRow rfl,
    readRuns_of_channelRow rfl, readRuns_of_channelRow rfl, readRuns_of_channelRow rfl, readRuns_of_channelRow rfl⟩

/-! ### SAMPLE_ALL (R90, R91) -/

/-- The two answer bytes of channel k among those of one SAMPLE_ALL. -/
def answersAt (rs : List Byte) (k : Nat) : List Byte := (rs.drop (2 * k)).take 2

/-- The events of the first n reads of one SAMPLE_ALL (R91). -/
def firstReads (p : Config.Params) (rs : List Byte) (n : Nat) : List Event :=
  (List.range n).flatMap fun i => readEvents p i (answersAt rs i)

/-- The frame where the channels 0 to k are read and the others are marked unwritten (R90). -/
def frameTo (rs : List Byte) (k : Nat) : Vector (Option Reading) 23 :=
  Vector.ofFn fun i => if i.val ≤ k then some (sampledReading rs i.val) else none

/-- What SAMPLE_ALL has made of `s` where the channels 0 to k are read. -/
def State.sampledTo (s : State) (rs : List Byte) (k : Nat) (e : Env) : State :=
  { s with env := e, x := frameTo rs k, rx := answersAt rs k, ret := .reading (sampledReading rs k), cfgvA := true,
           adcCsn := true, muxsel := if k < 7 then s.muxsel else BitVec.ofNat 4 (k - 7),
           waited := s.waited + (k + 1 + 50 * (k - 6)), pc := nextSample k,
           trace := s.trace ++ firstReads s.params rs (k + 1) }

section
variable {s : State} {rs : List Byte} {k : Nat} {e e' : Env}

@[simp] theorem State.sampledTo_heldA (s : State) (rs : List Byte) (k : Nat) (e : Env) :
    (s.sampledTo rs k e).heldA = s.heldA := by
  rw [State.sampledTo]

theorem answersAt_length (h : 2 * k + 2 ≤ rs.length) : (answersAt rs k).length = 2 := by
  rw [answersAt, List.length_take, List.length_drop]
  omega

theorem answerOf_answersAt (rs : List Byte) (k : Nat) : answerOf (answersAt rs k) = sampledReading rs k := by
  simp [answerOf, answersAt, sampledReading, List.getD_eq_getElem?_getD]

theorem frameTo_getElem (rs : List Byte) (k : Nat) {i : Nat} (hi : i < 23) :
    (frameTo rs k)[i] = if i ≤ k then some (sampledReading rs i) else none :=
  Vector.getElem_ofFn hi

theorem frameTo_zero (rs : List Byte) : (Vector.replicate 23 none).set 0 (some (sampledReading rs 0)) = frameTo rs 0 := by
  ext i hi : 1
  rw [Vector.getElem_set, frameTo_getElem, Vector.getElem_replicate]
  split
  next h => rw [← h, if_pos le_rfl]
  next h => rw [if_neg (by omega)]

theorem frameTo_succ (rs : List Byte) (hk : k + 1 < 23) :
    (frameTo rs k).set (k + 1) (some (sampledReading rs (k + 1))) = frameTo rs (k + 1) := by
  ext i hi : 1
  rw [Vector.getElem_set, frameTo_getElem, frameTo_getElem]
  split
  next h => rw [← h, if_pos le_rfl]
  next h => exact if_congr (by omega) rfl rfl

theorem firstReads_succ (p : Config.Params) (rs : List Byte) (n : Nat) :
    firstReads p rs (n + 1) = firstReads p rs n ++ readEvents p n (answersAt rs n) := by
  rw [firstReads, List.range_succ, List.flatMap_append, List.flatMap_singleton, firstReads]

/-- Eight events for a direct read, ten for a multiplexed one (R91). -/
theorem readEvents_length (p : Config.Params) (hlen : rs.length = 2) :
    (readEvents p k rs).length = if k < 7 then 8 else 10 := by
  have hadc (a : BitVec 3) : (adcEvents p a rs).length = 8 := burstEvents_length hlen
  unfold readEvents
  split
  · exact hadc _
  · rw [List.length_append, hadc]
    rfl

theorem firstReads_length (p : Config.Params) {n : Nat} (hlen : 2 * n ≤ rs.length) :
    (firstReads p rs n).length = 8 * n + 2 * (n - 7) := by
  induction n with
  | zero => rfl
  | succ n ih =>
    rw [firstReads_succ, List.length_append, ih (by omega), readEvents_length p (answersAt_length (by omega))]
    split <;> omega

/-- The first read, over the frame marked unwritten. -/
theorem afterRead_first (l : List Frame) :
    settle l (({ s with x := Vector.replicate 23 none }.push (sampleRows.tail.map Frame.op)).afterRead 0
      (answersAt rs 0) e) =
      settle l (s.sampledTo rs 0 e) := by
  rw [← settle_withAgenda l l, ← settle_withAgenda l l (s.sampledTo rs 0 e)]
  simp [State.afterRead, State.sampledTo, State.push, answerOf_answersAt, frameTo_zero, firstReads]

/-- The read of the channel after k. -/
theorem afterRead_next (hk : k + 1 < 23) (l : List Frame) :
    settle l ((s.sampledTo rs k e).afterRead ⟨k + 1, hk⟩ (answersAt rs (k + 1)) e') =
      settle l (s.sampledTo rs (k + 1) e') := by
  have hmux : k + 1 < 7 → k < 7 := Nat.lt_of_succ_lt
  have hwaited : s.waited + (k + 1 + 50 * (k - 6)) + (if k + 1 < 7 then 1 else 51) =
      s.waited + (k + 2 + 50 * (k - 5)) := by
    split <;> omega
  rw [← settle_withAgenda l l, ← settle_withAgenda l l (s.sampledTo rs (k + 1) e')]
  simp +contextual [State.afterRead, State.sampledTo, answerOf_answersAt, frameTo_succ rs hk, firstReads_succ, hmux,
    hwaited]

/-- After the read of channel k, the rows after it and what was in progress before are still to be done. -/
theorem sampleAll_reads (hh : s.heldA = false) (hf : s.NoFault 216) (hg : s.Grants 23 .busA) (ha : s.Answers rs)
    (hrs : rs.length = 46) (hk : k < 23) :
    ∃ e, s.env.Uses .busA e (8 * (k + 1) + 2 * (k - 6)) (k + 1) (2 * (k + 1)) ∧
      RunsTo .sampleAll (8 * (k + 1) + 2 * (k - 6) - 1) s
        (settle ((sampleRows.drop (k + 1)).map Frame.op ++ s.agenda) (s.sampledTo rs k e)) := by
  induction k with
  | zero =>
    let u := { s with x := Vector.replicate 23 none }.push (sampleRows.tail.map Frame.op)
    have hstart : s.env.Uses .busA u.env 0 0 0 := ⟨rfl, rfl, rfl⟩
    obtain ⟨e, t, huses, hexec, hrun⟩ := opReadDirect_runs (s := u) (j := 0) (rs := answersAt rs 0) hh
      (hstart.noFault (hf.mono (by omega))) (hstart.grants_of (hg.mono (by omega))) (hstart.answers ha)
      (answersAt_length (by omega))
    exact ⟨e, huses, t, hexec, hrun.trans (congrArg _ (afterRead_first _))⟩
  | succ k ih =>
    obtain ⟨e₁, huses₁, hruns⟩ := ih (by omega)
    have hlen : k + 1 < sampleRows.length := hk
    rw [List.drop_eq_getElem_cons hlen, List.map_cons, List.cons_append, settle_op] at hruns
    have huses₁ : s.env.Uses .busA (s.sampledTo rs k e₁).env (8 * (k + 1) + 2 * (k - 6)) (k + 1) (2 * (k + 1)) := huses₁
    obtain ⟨e, huses, hrun⟩ := run_channelRow (s := s.sampledTo rs k e₁) (k := ⟨k + 1, hk⟩) (rs := answersAt rs (k + 1))
      (List.getElem?_eq_getElem hlen) (by rwa [State.sampledTo_heldA]) (huses₁.noFault (hf.mono (by omega)))
      (huses₁.grants_of (hg.mono (by omega))) (huses₁.answers ha) (answersAt_length (by omega))
    have huses := huses₁.trans huses
    have hruns := hruns.add hrun
    rw [afterRead_next] at hruns
    have hevents : 8 * (k + 1) + 2 * (k - 6) + (if k + 1 < 7 then 8 else 10) = 8 * (k + 1 + 1) + 2 * (k + 1 - 6) := by
      split <;> omega
    refine ⟨e, hevents ▸ huses, ?_⟩
    rwa [← hevents, Nat.sub_add_comm (by omega)]

/-- An ADC transaction begins with its request of the lock, which neither the frame nor the phase register shows. -/
theorem opAdcBurst_starts {tx : List Byte} {after : List Frame} (hc : s.Calm) (hh : s.heldA = false)
    (hg : s.Grants 1 .busA) : ∃ t, opAdcBurst tx after s = .next t ∧ t.pc = s.pc ∧ t.x = s.x := by
  obtain ⟨e, -, hacq⟩ := exec_acq (bus := .busA) (s := (s.push after).push (burstTail .busA .adc Config.tCsSetup tx))
    hc hh hg
  refine ⟨_, hacq, ?_, ?_⟩
  · simp [burstTail, State.setHeld, State.setCfgv]
  · simp [burstTail, State.setHeld, State.setCfgv]

/-- The mark of R90: the registers are unwritten from the first event on, pc at the first channel. -/
theorem sampleAll_starts (hh : s.heldA = false) (hf : s.NoFault 1) (hg : s.Grants 1 .busA) :
    ∃ t, exec .sampleAll s = .next t ∧ t.pc = pcWord .sample 0 ∧ ∀ i : Fin 23, t.x[i] = none := by
  let u := ({ s with x := Vector.replicate 23 none }.push (sampleRows.tail.map Frame.op)).setPc .sample 0
  have hc : u.CalmFor 1 := .inr hf
  obtain ⟨t, hexec, hpc, hx⟩ := opAdcBurst_starts (s := u) (tx := adcBytes u.params 1)
    (after := [.act .answer, .act (.writeX 0), .act (.setPc (nextSample 0))]) hc.calm hh hg
  refine ⟨t, hexec, hpc, fun i => ?_⟩
  rw [hx]
  exact Vector.getElem_replicate i.isLt

end

/-- Settles O23: the reads one after another, each from where the read before it ends. -/
theorem sampleAllWritesTheFrame : Obligations.SampleAllWritesTheFrame := by
  intro s rs hh hf hg ha hrs
  refine ⟨firstReads_length s.params (n := 23) (by omega), sampleAll_starts hh (hf.mono (by omega)) (hg.mono (by omega)),
    fun k hpos hk => ?_, ?_⟩
  · obtain ⟨j, rfl⟩ := Nat.exists_eq_add_of_le' hpos
    obtain ⟨e, -, hruns⟩ := sampleAll_reads hh hf hg ha hrs (k := j) (by omega)
    have hlen : j + 1 < sampleRows.length := Nat.lt_succ_of_le hk
    rw [List.drop_eq_getElem_cons hlen, List.map_cons, List.cons_append, settle_op] at hruns
    exact ⟨_, hruns, if_pos hk⟩
  · obtain ⟨e, -, hruns⟩ := sampleAll_reads hh hf hg ha hrs (k := 22) (by omega)
    have hframe : frameTo rs 22 = Vector.ofFn fun i : Fin 23 => some (sampledReading rs i.val) :=
      congrArg Vector.ofFn (funext fun i => if_pos (Nat.le_of_lt_succ i.isLt))
    have hlast : answersAt rs 22 = rs.drop 44 := List.take_of_length_le (by simp [hrs])
    rw [State.sampledTo, hframe, hlast] at hruns
    exact ⟨e, hruns⟩

end Sys2Proof.Machine

/-! ## The CAN Link Driver: reset, configuration, bring-up and SEND_FRAME (R95 to R103)

The reset and each write move the phase register, so they are chained over `Env.Uses`; SEND_FRAME leaves it, and its bursts
are chained over `State.Spends`. -/

namespace Sys2Proof.Machine

section
variable {s : State} {rs : List Byte} {e e' : Env}

/-- A burst to the CAN controller begins with its request of the lock, which neither CANST nor the phase register shows. -/
theorem opCanBurst_starts {tx : List Byte} {after : List Frame} (hc : s.Calm) (hh : s.heldB = false)
    (hg : s.Grants 1 .busB) : ∃ t, opCanBurst tx after s = .next t ∧ t.pc = s.pc ∧ t.canst = s.canst := by
  obtain ⟨e, -, hacq⟩ := exec_acq (bus := .busB) (s := (s.push after).push (burstTail .busB .can 0 tx)) hc hh hg
  refine ⟨_, hacq, ?_, ?_⟩
  · simp [burstTail, State.setHeld, State.setCfgv]
  · simp [burstTail, State.setHeld, State.setCfgv]

/-! ### CAN_RESET (R95) -/

/-- What CAN_RESET leaves, `rs` its received byte (R95, R18). -/
def State.afterReset (s : State) (rs : List Byte) (e : Env) : State :=
  { s with env := e, canst := .configuring, pc := pcWord .canCfg 0, rx := rs, cfgvB := true, canCsn := true,
           waited := s.waited + 10000, trace := s.trace ++ resetEvents s.params rs }

theorem opCanReset_starts (hc : s.Calm) (hh : s.heldB = false) (hg : s.Grants 1 .busB) :
    ∃ t, opCanReset s = .next t ∧ t.pc = s.pc ∧ t.canst = .resetting :=
  opCanBurst_starts (s := { s with canst := .resetting }) hc hh hg

/-- The reset burst, the wait for the oscillator, and the two silent actions that end the reset. -/
theorem opCanReset_runs (hh : s.heldB = false) (hc : s.CalmFor 7) (hg : s.Grants 1 .busB) (ha : s.Answers rs)
    (hrs : rs.length = 1) :
    ∃ e t, s.Spends .busB e 7 1 1 ∧ opCanReset s = .next t ∧
      Host.Core.run Sys2Proof.core 6 t = .next (settle s.agenda (s.afterReset rs e)) := by
  let ends := Frame.act (.setCanst .configuring) :: .act (.setPc (pcWord .canCfg 0)) :: s.agenda
  obtain ⟨e₁, t, h₁, hexec, hrun⟩ := canBurst_runs (s := { s with canst := .resetting }) (tx := [s.params.opReset])
    (after := [.op (.wait Config.tCanReset), .act (.setCanst .configuring), .act (.setPc (pcWord .canCfg 0))])
    hrs hh (hc.mono (by simp)) hg ha
  let u : State := { s with
    env := e₁, canst := .resetting, rx := rs, cfgvB := true, canCsn := true, agenda := ends,
    trace := s.trace ++ canEvents s.params [s.params.opReset] rs }
  have hspent : s.Spends .busB u.env 6 1 1 := ⟨h₁.fault, h₁.grants, hrs ▸ h₁.rx⟩
  obtain ⟨e, h₂, hwait⟩ := exec_wait (bus := .busB) (s := u) (n := 10000) (hspent.calmFor (n := 1) rfl hc).calm (by decide)
  refine ⟨e, t, hspent.trans rfl h₂, hexec, ?_⟩
  refine (run_add (n := 1) hrun).trans ((run_cons (s := u) hwait rfl).trans ?_)
  rw [← settle_withAgenda s.agenda ends]
  simp [u, ends, State.afterReset, resetEvents, doAct]

/-- Seven events: the burst of one byte and the wait (R95). -/
theorem resetEvents_length (p : Config.Params) (hrs : rs.length = 1) : (resetEvents p rs).length = 7 := by
  rw [resetEvents, List.length_append, canEvents_length (tx := [p.opReset]) hrs]
  rfl

/-- Conditions may be signalled in P_CAN_RESET (R138). -/
theorem window_of_canReset (hpc : s.pc = pcWord .canReset 0) : s.window ≠ .outside := by
  rw [State.window, hpc, pcPhase_pcWord .canReset (by decide)]
  decide

/-! ### One configuration write (R96, R97) -/

/-- What write W(k+1) leaves, `rs` its three received bytes (R97, R18). -/
def State.afterWrite (s : State) (k : Fin 5) (rs : List Byte) (e : Env) : State :=
  { s with env := e, rx := rs, cfgvB := true, canCsn := true,
           canRegs := s.canRegs.set (cfgOperands s.params k).1.toNat (cfgOperands s.params k).2,
           pc := nextCfg k.val, trace := s.trace ++ cfgWriteEvents s.params k rs }

/-- Conditions may be signalled in P_CAN_CFG (R138). -/
theorem window_of_canCfg {k : Nat} (hk : k < 5) (hpc : s.pc = pcWord .canCfg k) : s.window ≠ .outside := by
  rw [State.window, hpc, pcPhase_pcWord .canCfg (by omega)]
  decide

/-- A write from its phase register on: one burst, then the record and the phase register. -/
theorem opCfgWrite_runs {k : Fin 5} (hh : s.heldB = false) (hf : s.NoFault 8) (hg : s.Grants 1 .busB)
    (ha : s.Answers rs) (hrs : rs.length = 3) :
    ∃ e t, s.env.Uses .busB e 8 1 3 ∧ opCfgWrite k s = .next t ∧
      Host.Core.run Sys2Proof.core 7 t = .next (settle s.agenda (s.afterWrite k rs e)) := by
  let a := (cfgOperands s.params k).1
  let v := (cfgOperands s.params k).2
  obtain ⟨e, t, hspent, hexec, hrun⟩ := canBurst_runs (s := s.setPc .canCfg k.val) (tx := writeBytes s.params a v)
    (after := [.act (.noteReg a v), .act (.setPc (nextCfg k.val))]) hrs hh (.inr hf) hg ha
  rw [hrs] at hspent
  exact ⟨e, t, hspent.uses (window_of_canCfg k.isLt rfl), hexec, hrun⟩

/-- The rows of the five writes (R97). -/
theorem exec_cfgRow {i : Instr} {k : Fin 5} (hi : cfgRows[k.val]? = some i) (s : State) : exec i s = opCfgWrite k s := by
  fin_cases k <;> cases hi <;> rfl

/-- A write as the next operation in progress. -/
theorem run_cfgRow {i : Instr} {k : Fin 5} {l : List Frame} (hi : cfgRows[k.val]? = some i) (hh : s.heldB = false)
    (hf : s.NoFault 8) (hg : s.Grants 1 .busB) (ha : s.Answers rs) (hrs : rs.length = 3) :
    ∃ e, s.env.Uses .busB e 8 1 3 ∧
      Host.Core.run Sys2Proof.core 8 { s with agenda := .op i :: l } = .next (settle l (s.afterWrite k rs e)) := by
  obtain ⟨e, t, huses, hexec, hrun⟩ := opCfgWrite_runs (s := { s with agenda := l }) (k := k) hh hf hg ha hrs
  refine ⟨e, huses, ?_⟩
  rw [← settle_withAgenda l l]
  exact run_cons ((exec_cfgRow hi _).trans hexec) hrun

end

theorem configurationWriteRuns_of_cfgRow {i : Instr} {k : Fin 5} (hi : cfgRows[k.val]? = some i) :
    ConfigurationWriteRuns i k := by
  intro s rs hh hf hg ha hrs
  obtain ⟨e, t, -, hexec, hrun⟩ := opCfgWrite_runs (k := k) hh hf hg ha hrs
  exact ⟨e, t, (exec_cfgRow hi s).trans hexec, hrun⟩

/-- Settles O26: the reset from any state of the driver. -/
theorem canResetRuns : Obligations.CanResetRuns := by
  intro s rs hh hc hg ha hrs
  obtain ⟨t, hexec, -, hcanst⟩ := opCanReset_starts (hc.mono (by decide : 1 ≤ 7)).calm hh hg
  obtain ⟨e, t', -, hexec', hrun⟩ := opCanReset_runs hh hc hg ha hrs
  exact ⟨⟨t, hexec, hcanst⟩, e, t', hexec', hrun⟩

/-- Settles O27: each row is the write of its own index. -/
theorem configurationWritesRun : Obligations.ConfigurationWritesRun :=
  ⟨configurationWriteRuns_of_cfgRow rfl, configurationWriteRuns_of_cfgRow rfl, configurationWriteRuns_of_cfgRow rfl,
    configurationWriteRuns_of_cfgRow rfl, configurationWriteRuns_of_cfgRow rfl⟩

/-! ### CAN_CONFIGURE (R97) and CAN_INIT (R99) -/

/-- The three bytes received in write W(k+1) of one CAN_CONFIGURE. -/
def receivedAt (rs : List Byte) (k : Nat) : List Byte := (rs.drop (3 * k)).take 3

/-- The events of the first n writes of one CAN_CONFIGURE (R97). -/
def firstWrites (p : Config.Params) (rs : List Byte) (n : Nat) : List Event :=
  ((List.finRange 5).take n).flatMap fun k => cfgWriteEvents p k (receivedAt rs k.val)

/-- The controller's registers after the first n writes of R97. -/
def registersAfter (p : Config.Params) (m : Mem) (n : Nat) : Mem :=
  ((List.finRange 5).take n).foldl (fun m k => m.set (cfgOperands p k).1.toNat (cfgOperands p k).2) m

/-- What CAN_CONFIGURE has made of `s` where the writes W1 to W(k+1) are done. -/
def State.configuredTo (s : State) (rs : List Byte) (k : Nat) (e : Env) : State :=
  { s with env := e, canst := .configuring, pc := nextCfg k, rx := receivedAt rs k, cfgvB := true, canCsn := true,
           canRegs := registersAfter s.params s.canRegs (k + 1), trace := s.trace ++ firstWrites s.params rs (k + 1) }

section
variable {s : State} {rs : List Byte} {k : Nat} {e e' : Env}

theorem receivedAt_length (h : 3 * k + 3 ≤ rs.length) : (receivedAt rs k).length = 3 := by
  rw [receivedAt, List.length_take, List.length_drop]
  omega

theorem take_finRange_succ {n : Nat} (k : Fin n) :
    (List.finRange n).take (k.val + 1) = (List.finRange n).take k.val ++ [k] := by
  rw [List.take_succ_eq_append_getElem (by simp), List.getElem_finRange]
  rfl

theorem firstWrites_succ (p : Config.Params) (rs : List Byte) (hk : k < 5) :
    firstWrites p rs (k + 1) = firstWrites p rs k ++ cfgWriteEvents p ⟨k, hk⟩ (receivedAt rs k) := by
  rw [firstWrites, take_finRange_succ ⟨k, hk⟩, List.flatMap_append, List.flatMap_singleton, firstWrites]

theorem registersAfter_succ (p : Config.Params) (m : Mem) (hk : k < 5) :
    registersAfter p m (k + 1) =
      (registersAfter p m k).set (cfgOperands p ⟨k, hk⟩).1.toNat (cfgOperands p ⟨k, hk⟩).2 := by
  rw [registersAfter, take_finRange_succ ⟨k, hk⟩, List.foldl_concat, registersAfter]

/-- Eight events for each write (R99). -/
theorem firstWrites_length (p : Config.Params) {n : Nat} (hn : n ≤ 5) (hlen : 3 * n ≤ rs.length) :
    (firstWrites p rs n).length = 8 * n := by
  induction n with
  | zero => rfl
  | succ n ih =>
    have hwrite : (cfgWriteEvents p ⟨n, hn⟩ (receivedAt rs n)).length = 8 := canEvents_length (receivedAt_length (by omega))
    rw [firstWrites_succ p rs hn, List.length_append, ih (by omega) (by omega), hwrite]
    omega

theorem configureEvents_length (p : Config.Params) (hrs : rs.length = 15) : (configureEvents p rs).length = 40 :=
  firstWrites_length p (n := 5) le_rfl hrs.ge

/-- The first write, in a driver made Configuring. -/
theorem afterWrite_first (l l' : List Frame) :
    settle l (({ s with canst := .configuring }.push l').afterWrite 0 (receivedAt rs 0) e) =
      settle l (s.configuredTo rs 0 e) := by
  rw [← settle_withAgenda l l, ← settle_withAgenda l l (s.configuredTo rs 0 e), State.configuredTo,
    registersAfter_succ _ _ (by decide), firstWrites_succ _ _ (by decide)]
  rfl

/-- The write after W(k+1). -/
theorem afterWrite_next (hk : k + 1 < 5) :
    (s.configuredTo rs k e).afterWrite ⟨k + 1, hk⟩ (receivedAt rs (k + 1)) e' = s.configuredTo rs (k + 1) e' := by
  simp only [State.afterWrite, State.configuredTo, registersAfter_succ _ _ hk, firstWrites_succ _ _ hk, List.append_assoc]

/-- After write W(k+1), the rows after it, the end of CAN_CONFIGURE and what was in progress before are still to be done. -/
theorem canConfigure_writes (hh : s.heldB = false) (hf : s.NoFault 40) (hg : s.Grants 5 .busB) (ha : s.Answers rs)
    (hrs : rs.length = 15) (hk : k < 5) :
    ∃ e, s.env.Uses .busB e (8 * (k + 1)) (k + 1) (3 * (k + 1)) ∧
      RunsTo .canConfigure (8 * (k + 1) - 1) s
        (settle ((cfgRows.drop (k + 1)).map Frame.op ++ .act (.setCanst .operational) :: s.agenda)
          (s.configuredTo rs k e)) := by
  induction k with
  | zero =>
    let u := { s with canst := .configuring }.push (cfgRows.tail.map Frame.op ++ [Frame.act (.setCanst .operational)])
    have hstart : s.env.Uses .busB u.env 0 0 0 := ⟨rfl, rfl, rfl⟩
    obtain ⟨e, t, huses, hexec, hrun⟩ := opCfgWrite_runs (s := u) (k := 0) (rs := receivedAt rs 0) hh
      (hstart.noFault (hf.mono (by omega))) (hstart.grants_of (hg.mono (by omega))) (hstart.answers ha)
      (receivedAt_length (by omega))
    exact ⟨e, huses, t, hexec, hrun.trans (congrArg _ (afterWrite_first _ _))⟩
  | succ k ih =>
    obtain ⟨e₁, huses₁, hruns⟩ := ih (by omega)
    have hlen : k + 1 < cfgRows.length := hk
    rw [List.drop_eq_getElem_cons hlen, List.map_cons, List.cons_append, settle_op] at hruns
    have huses₁ : s.env.Uses .busB (s.configuredTo rs k e₁).env (8 * (k + 1)) (k + 1) (3 * (k + 1)) := huses₁
    obtain ⟨e, huses, hrun⟩ := run_cfgRow (s := s.configuredTo rs k e₁) (k := ⟨k + 1, hk⟩) (rs := receivedAt rs (k + 1))
      (List.getElem?_eq_getElem hlen) hh (huses₁.noFault (hf.mono (by omega)))
      (huses₁.grants_of (hg.mono (by omega))) (huses₁.answers ha) (receivedAt_length (by omega))
    have hruns := hruns.add hrun
    rw [afterWrite_next, show 8 * (k + 1) - 1 + 8 = 8 * (k + 1 + 1) - 1 by omega] at hruns
    exact ⟨e, huses₁.trans huses, hruns⟩

/-- The whole of CAN_CONFIGURE: the five writes, then CANST Operational. -/
theorem canConfigure_runs (hh : s.heldB = false) (hf : s.NoFault 40) (hg : s.Grants 5 .busB) (ha : s.Answers rs)
    (hrs : rs.length = 15) :
    ∃ e, RunsTo .canConfigure 39 s (settle s.agenda
      { s with env := e, canst := .operational, pc := pcWord .schedInit 0, rx := rs.drop 12, cfgvB := true,
               canCsn := true, canRegs := configuredRegs s.params s.canRegs,
               trace := s.trace ++ configureEvents s.params rs }) := by
  obtain ⟨e, -, hruns⟩ := canConfigure_writes hh hf hg ha hrs (k := 4) (by omega)
  have hlast : receivedAt rs 4 = rs.drop 12 := List.take_of_length_le (by simp [hrs])
  rw [State.configuredTo, hlast] at hruns
  exact ⟨e, hruns⟩

/-- CANST is Configuring from the first event on, pc at the first write. -/
theorem canConfigure_starts (hh : s.heldB = false) (hf : s.NoFault 1) (hg : s.Grants 1 .busB) :
    ∃ t, exec .canConfigure s = .next t ∧ t.pc = pcWord .canCfg 0 ∧ t.canst = .configuring := by
  let u := ({ s with canst := .configuring }.push (cfgRows.tail.map Frame.op ++ [Frame.act (.setCanst .operational)])).setPc
    .canCfg 0
  have hc : u.CalmFor 1 := .inr hf
  exact opCanBurst_starts (s := u) hc.calm hh hg

end

/-- Settles O28: the writes one after another, each from where the write before it ends. -/
theorem canConfigureRuns : Obligations.CanConfigureRuns := by
  intro s rs hh hf hg ha hrs
  refine ⟨configureEvents_length s.params hrs, canConfigure_starts hh (hf.mono (by omega)) (hg.mono (by omega)),
    fun k hpos hk => ?_, canConfigure_runs hh hf hg ha hrs⟩
  obtain ⟨j, rfl⟩ := Nat.exists_eq_add_of_le' hpos
  obtain ⟨e, -, hruns⟩ := canConfigure_writes hh hf hg ha hrs (k := j) (by omega)
  have hlen : j + 1 < cfgRows.length := Nat.lt_succ_of_le hk
  rw [List.drop_eq_getElem_cons hlen, List.map_cons, List.cons_append, settle_op] at hruns
  exact ⟨_, hruns, if_pos hk, rfl⟩

/-- Settles O29: the reset from P_CAN_RESET, then the five writes from the state it leaves. -/
theorem canInitRuns : Obligations.CanInitRuns := by
  intro s rs hh hf hg ha hrs
  let u := (s.setPc .canReset 0).push [.op .canConfigure]
  have hstart : s.env.Uses .busB u.env 0 0 0 := ⟨rfl, rfl, rfl⟩
  have hc : u.CalmFor 7 := .inr (hstart.noFault (hf.mono (by decide)))
  have hg₁ : u.Grants 1 .busB := hstart.grants_of (hg.mono (by decide))
  have hreset : (rs.take 1).length = 1 := by simp [hrs]
  have hrest : (rs.drop 1).length = 15 := by simp [hrs]
  obtain ⟨t₀, hexec₀, hpc₀, hcanst₀⟩ := opCanReset_starts (hc.mono (by decide : 1 ≤ 7)).calm hh hg₁
  obtain ⟨e₁, t, hspent, hexec, hrun⟩ := opCanReset_runs (s := u) hh hc hg₁ (hstart.answers (n := 1) ha) hreset
  let v : State := { u.afterReset (rs.take 1) e₁ with agenda := s.agenda }
  have huses : s.env.Uses .busB v.env 7 1 1 := hspent.uses (window_of_canReset rfl)
  have ha' : v.Answers (rs.drop 1) := by
    have h := huses.answers (n := 15) ha
    rwa [List.take_of_length_le hrest.le] at h
  obtain ⟨e, t', hexec', hrun'⟩ := canConfigure_runs (s := v) hh (huses.noFault hf) (huses.grants_of hg) ha' hrest
  have hcount : (resetEvents s.params (rs.take 1) ++ configureEvents s.params (rs.drop 1)).length = 47 := by
    rw [List.length_append, resetEvents_length s.params hreset, configureEvents_length s.params hrest]
  refine ⟨hcount, ⟨t₀, hexec₀, hpc₀, hcanst₀⟩, e, t, hexec, ?_⟩
  refine (run_add (n := 40) hrun).trans ((run_cons hexec' hrun').trans ?_)
  rw [← settle_withAgenda s.agenda s.agenda]
  simp [v, u, State.afterReset]

/-! ### SEND_FRAME: the load and the request-to-send (R101 to R103) -/

section
variable {s : State} {id : BitVec 11} {data rs : List Byte} {after : List Frame}

/-- The load of transmit buffer 0 with the draws it uses: a request of the lock for each of its bursts. -/
theorem load_spends (hlen : rs.length = 6 + data.length) (hh : s.heldB = false) (hc : s.CalmFor (data.length + 16))
    (hg : s.Grants 2 .busB) (ha : s.Answers rs) :
    ∃ e r t, s.Spends .busB e (loadEvents s.params id data rs).length (if s.params.txLoadSplit then 2 else 1) rs.length ∧
      opLoadTx0 id data after s = .next t ∧
      Host.Core.run Sys2Proof.core ((loadEvents s.params id data rs).length - 1) t =
        .next (settle (.act (.noteTx (loadHeader id data.length ++ data)) :: (after ++ s.agenda))
          { s with env := e, rx := r, cfgvB := true, canCsn := true,
                   trace := s.trace ++ loadEvents s.params id data rs }) := by
  rw [loadEvents_length hlen]
  cases hw : s.params.txLoadSplit with
  | false =>
    obtain ⟨e, t, h⟩ := load_runs_whole (id := id) (after := after) hw hlen hh (hc.mono (by omega)) (hg.mono (by omega)) ha
    exact ⟨e, rs, t, h⟩
  | true =>
    obtain ⟨e, t, h⟩ := load_runs_split (id := id) (after := after) hw hlen hh hc hg ha
    exact ⟨e, rs.drop 1, t, h⟩

theorem frameEvents_length {p : Config.Params} (hlen : rs.length = 7 + data.length) :
    (frameEvents p id data rs).length = data.length + if p.txLoadSplit then 22 else 17 := by
  have hload : (rs.take (6 + data.length)).length = 6 + data.length := by
    rw [List.length_take]
    omega
  have hrts : (rs.drop (6 + data.length)).length = 1 := by
    rw [List.length_drop]
    omega
  rw [frameEvents, List.length_append, loadEvents_length hload, canEvents_length (tx := [p.opRts0]) hrts,
    List.length_singleton]
  split <;> omega

theorem frameEvents_append {rs₁ rs₂ : List Byte} (p : Config.Params) (id : BitVec 11)
    (h : rs₁.length = 6 + data.length) : frameEvents p id data (rs₁ ++ rs₂) =
      loadEvents p id data rs₁ ++ canEvents p [p.opRts0] rs₂ := by
  rw [frameEvents, List.take_left' h, List.drop_left' h]

/-- What the frame leaves once the request-to-send is done, `rs` its received bytes (R27, R103). -/
def State.afterFrame (s : State) (id : BitVec 11) (data rs : List Byte) (e : Env) : State :=
  { s with env := e, rx := rs.drop (6 + data.length), ret := .ok, cfgvB := true, canCsn := true,
           txb0 := s.txb0.setList 0 (loadHeader id data.length ++ data),
           trace := s.trace ++ frameEvents s.params id data rs }

/-- A frame (R101 to R103): the load, then the request-to-send from where the load ends, then Ok. -/
theorem frame_runs (hlen : rs.length = 7 + data.length) (hh : s.heldB = false) (hc : s.CalmFor (data.length + 22))
    (hg : s.Grants 3 .busB) (ha : s.Answers rs) :
    ∃ e t, s.Spends .busB e (frameEvents s.params id data rs).length (if s.params.txLoadSplit then 3 else 2) rs.length ∧
      opLoadTx0 id data (.op .canRts0Cmd :: .act .sent :: after) s = .next t ∧
      Host.Core.run Sys2Proof.core ((frameEvents s.params id data rs).length - 1) t =
        .next (settle (after ++ s.agenda) (s.afterFrame id data rs e)) := by
  obtain ⟨rs₁, rs₂, rfl, hlen₁⟩ : ∃ rs₁ rs₂, rs = rs₁ ++ rs₂ ∧ rs₁.length = 6 + data.length :=
    ⟨_, _, (List.take_append_drop (6 + data.length) rs).symm, by rw [List.length_take]; omega⟩
  have hlen₂ : rs₂.length = 1 := by
    rw [List.length_append] at hlen
    omega
  have hevents := frameEvents_append (rs₂ := rs₂) s.params id hlen₁
  have hcount := loadEvents_length (p := s.params) (id := id) hlen₁
  obtain ⟨e₁, r, t, h₁, hexec, hrun⟩ := load_spends (id := id) (after := .op .canRts0Cmd :: .act .sent :: after) hlen₁ hh
    (hc.mono (by omega)) (hg.mono (by omega)) ((List.prefix_append rs₁ rs₂).trans ha)
  let u : State := { s with
    env := e₁, rx := r, cfgvB := true, canCsn := true,
    txb0 := s.txb0.setList 0 (loadHeader id data.length ++ data), agenda := .act .sent :: (after ++ s.agenda),
    trace := s.trace ++ loadEvents s.params id data rs₁ }
  have hspent : s.Spends .busB u.env (loadEvents s.params id data rs₁).length (if s.params.txLoadSplit then 2 else 1)
    rs₁.length := h₁
  have hc₂ : u.CalmFor 6 := hspent.calmFor rfl (hc.mono (by rw [hcount]; split <;> omega))
  have hg₂ : u.Grants 1 .busB := hspent.grants_of (hg.mono (by split <;> omega))
  obtain ⟨e, t', h₂, hrts, hrun'⟩ := canBurst_runs (s := u) (tx := [s.params.opRts0]) (after := []) hlen₂ hh hc₂ hg₂
    (hspent.answers ha)
  have hexec' : exec .canRts0Cmd u = .next t' := hrts
  refine ⟨e, t, ?_, hexec, ?_⟩
  · have h := hspent.trans rfl h₂
    have hrequests : (if s.params.txLoadSplit then 3 else 2) = (if s.params.txLoadSplit then 2 else 1) + 1 := by
      split <;> rfl
    rwa [hevents, List.length_append, List.length_append, canEvents_length (tx := [s.params.opRts0]) hlen₂, hrequests]
  · have h := (run_add hrun).trans (run_cons hexec' hrun')
    have hsteps : (frameEvents s.params id data (rs₁ ++ rs₂)).length - 1 =
        (loadEvents s.params id data rs₁).length - 1 + ([s.params.opRts0].length + 4 + 1) := by
      rw [hevents, List.length_append, canEvents_length (tx := [s.params.opRts0]) hlen₂, hcount, List.length_singleton]
      split <;> omega
    rw [hsteps, h, ← settle_withAgenda (after ++ s.agenda) (.act .sent :: (after ++ s.agenda))]
    simp [u, State.afterFrame, doAct, hevents, List.drop_left' hlen₁]

end

/-- SEND_FRAME returns its TxError to the caller (R132). -/
theorem exec_sendFrame (id : BitVec 16) (data : List Byte) (s : State) :
    exec (.sendFrame id data) s = opSendFrame id data [] (fun e s => done { s with ret := .txError e }) s := rfl

/-- Settles O31: past the checks of R100, SEND_FRAME is its frame. -/
theorem sendFrameSends : Obligations.SendFrameSends := by
  intro id data rs s hop hid hd hlen hh hc hg ha
  obtain ⟨e, t, -, hexec, hrun⟩ := frame_runs (id := id.setWidth 11) (after := []) hlen hh (hc.mono (by omega)) hg ha
  rw [← opSendFrame_sends hop hid hd, ← exec_sendFrame] at hexec
  exact ⟨frameEvents_length hlen, e, t, hexec, hrun⟩

/-! ### SEND_FRAME: its checks (R100, R106) -/

section
variable {s : State}

theorem opSendFrame_refuses {id : BitVec 16} {data : List Byte} {after : List Frame} {onError : TxError → State → Result}
    (hop : s.canst ≠ .operational) : opSendFrame id data after onError s = refuse s :=
  if_pos hop

theorem opSendFrame_idOutOfRange {id : BitVec 16} {data : List Byte} {after : List Frame}
    {onError : TxError → State → Result} (hop : s.canst = .operational) (hid : Config.canIdMax < id.toNat) :
    opSendFrame id data after onError s = onError (.idOutOfRange id) s := by
  rw [opSendFrame, if_neg (not_not.mpr hop), if_pos hid]

theorem opSendFrame_payloadTooLong {id : BitVec 16} {data : List Byte} {after : List Frame}
    {onError : TxError → State → Result} (hop : s.canst = .operational) (hid : id.toNat ≤ Config.canIdMax)
    (hd : Config.canMaxLen < data.length) :
    opSendFrame id data after onError s = onError (.payloadTooLong data.length) s := by
  rw [opSendFrame, if_neg (not_not.mpr hop), if_neg (Nat.not_lt.mpr hid), if_pos hd]

theorem opChunk_refuses {k : Fin 6} (hop : s.canst ≠ .operational) : opChunk k s = refuse (s.setPc .tx k.val) :=
  if_pos hop

/-- Byte j of a payload is a half of reading j / 2 (R123). -/
theorem payloadOf_getElem? (v : List Reading) (j : Nat) :
    (payloadOf v)[j]? = v[j / 2]?.map fun r => if j % 2 = 0 then readingHigh r else readingLow r := by
  induction v generalizing j with
  | nil => rfl
  | cons r v ih =>
    obtain _ | _ | j := j
    · rfl
    · rfl
    · have hpay : (payloadOf (r :: v))[j + 2]? = (payloadOf v)[j]? := rfl
      have hdiv : (j + 2) / 2 = j / 2 + 1 := Nat.add_div_right j Nat.two_pos
      have hmod : (j + 2) % 2 = j % 2 := Nat.add_mod_right j 2
      rw [hpay, ih, hdiv, hmod, List.getElem?_cons_succ]

/-- PACK of a written frame writes its payload (R123). -/
theorem packed_of_frame {v : List Reading} (h : s.frame = some v) :
    packed s.x = Vector.ofFn fun j : Fin 46 => (payloadOf v)[j.val]? := by
  refine congrArg Vector.ofFn (funext fun j => ?_)
  have hx : (v.map some)[j.val / 2]? = some s.x[j.val / 2] := by
    rw [← allWritten_eq_some.mp h]
    simp
  rw [List.getElem?_map] at hx
  obtain ⟨r, hr, hxr⟩ := Option.map_eq_some_iff.mp hx
  rw [payloadOf_getElem?, packByte, hr, ← hxr]

/-- SEND_READINGS packs, and is refused at chunk 0 (R126, R106). -/
theorem opSendReadings_refuses {v : List Reading} {after : List Frame} (hop : s.canst ≠ .operational)
    (h : s.frame = some v) :
    opSendReadings after s = .next { s with
      pay := Vector.ofFn fun j : Fin 46 => (payloadOf v)[j.val]?, payLive := true, pc := pcWord .tx 0, refused := true,
      ret := .nothing, agenda := [] } := by
  rw [← packed_of_frame h]
  simp only [opSendReadings, h]
  generalize packed s.x = pay
  exact opChunk_refuses (k := 0) hop

end

/-- Settles O32: the checks of R100 in their order, and the callers of SEND_FRAME that meet the first of them. -/
theorem sendFrameRejects : Obligations.SendFrameRejects := by
  intro id data s
  rw [exec_sendFrame]
  refine ⟨fun hop => ⟨opSendFrame_refuses hop, fun k i hi => ?_, fun v hv => ?_⟩,
    opSendFrame_idOutOfRange, opSendFrame_payloadTooLong⟩
  · have hk : k < 6 := (List.getElem?_eq_some_iff.mp hi).1
    exact (exec_chunkRow (k := ⟨k, hk⟩) hi).trans (opChunk_refuses hop)
  · exact ⟨opSendReadings_refuses hop hv, fun now last hn hl hd =>
      (execTxIfDue_due hn hl hd).trans (opSendReadings_refuses hop hv)⟩

end Sys2Proof.Machine

/-! ## The clock registers, the waits and the stores (R110, R118)

SCHED_INIT and READ_CLOCK alone read the clock, STORE_IF_DUE alone stores, TX_IF_DUE alone begins a timed transmission. Every
other meaning leaves the clock registers, but for the silent write of LAST_TX where one is in progress (`Times.Stay`). -/

namespace Sys2Proof.Machine

/-- What the clock laws and the cadence speak of. -/
structure Times where
  ts : Option Nat
  now : Option Nat
  lastStore : Option Nat
  lastTx : Option Nat
  lastClk : Option Nat
  waited : Nat
  trace : List Event
  agenda : List Frame

def State.times (s : State) : Times :=
  ⟨s.ts, s.now, s.lastStore, s.lastTx, s.lastClk, s.waited, s.trace, s.agenda⟩

/-- The event is neither a clock value nor a store. -/
def Event.timeless : Event → Bool
  | .clk _ | .store _ _ _ => false
  | _ => true

/-- An item in progress that moves no clock register. -/
def Frame.plain (f : Frame) : Bool := clockless f && decide (f ≠ .act .lastTx)

/-- No clock is read and nothing is stored, the waits are counted, LAST_TX is left or gets NOW by a write in progress, and no
other item that could move a clock register comes to be in progress. -/
structure Times.Stay (m n : Times) : Prop where
  ts : n.ts = m.ts
  now : n.now = m.now
  lastStore : n.lastStore = m.lastStore
  lastTx : n.lastTx = m.lastTx ∨ (.act .lastTx ∈ m.agenda ∧ n.lastTx = m.now)
  lastClk : n.lastClk = m.lastClk
  trace : ∃ es : List Event, n.trace = m.trace ++ es ∧ n.waited = m.waited + waitsOf es ∧ ∀ e ∈ es, e.timeless = true
  agenda : ∀ f ∈ n.agenda, f ∈ m.agenda ∨ f.plain = true

/-- A next state, where the result is one, has the clock registers so. -/
def KeepsTimes (r : Result) (m : Times) : Prop := ∀ t, r = .next t → m.Stay t.times

theorem waitsOf_cons (e : Event) (l : List Event) : waitsOf (e :: l) = waitsOf [e] + waitsOf l := by
  cases e <;> simp [waitsOf]

theorem waitsOf_append (a b : List Event) : waitsOf (a ++ b) = waitsOf a + waitsOf b := by
  induction a with
  | nil => exact (Nat.zero_add _).symm
  | cons e a ih => rw [List.cons_append, waitsOf_cons, ih, waitsOf_cons e a, Nat.add_assoc]

theorem Times.Stay.refl (m : Times) : m.Stay m :=
  ⟨rfl, rfl, rfl, .inl rfl, rfl, ⟨[], by simp [waitsOf]⟩, fun _ => .inl⟩

theorem Times.Stay.trans {m n p : Times} (h : m.Stay n) (h' : n.Stay p) : m.Stay p where
  ts := h'.ts.trans h.ts
  now := h'.now.trans h.now
  lastStore := h'.lastStore.trans h.lastStore
  lastTx := by
    obtain hsame | ⟨hin, hnow⟩ := h'.lastTx
    · rw [hsame]
      exact h.lastTx
    · refine .inr ⟨(h.agenda _ hin).resolve_right (by decide), hnow.trans h.now⟩
  lastClk := h'.lastClk.trans h.lastClk
  trace := by
    obtain ⟨es, htrace, hwaited, hes⟩ := h.trace
    obtain ⟨es', htrace', hwaited', hes'⟩ := h'.trace
    refine ⟨es ++ es', by rw [htrace', htrace, List.append_assoc], ?_, List.forall_mem_append.mpr ⟨hes, hes'⟩⟩
    rw [hwaited', hwaited, waitsOf_append, Nat.add_assoc]
  agenda f hf := (h'.agenda f hf).elim (h.agenda f) .inr

theorem KeepsTimes.of_stay {r : Result} {m n : Times} (h : m.Stay n) (hr : KeepsTimes r n) : KeepsTimes r m :=
  fun t ht => h.trans (hr t ht)

@[simp] theorem State.passed_times (s : State) : s.passed.times = s.times := by simp [State.times]

@[simp] theorem State.setHeld_times (s : State) (v : Bool) (bus : Bus) : (s.setHeld v bus).times = s.times := by
  simp [State.times]

@[simp] theorem State.setCfgv_times (s : State) (v : Bool) (bus : Bus) : (s.setCfgv v bus).times = s.times := by
  simp [State.times]

@[simp] theorem State.setCsn_times (s : State) (v : Bool) (d : Device) : (s.setCsn v d).times = s.times := by
  simp [State.times]

@[simp] theorem State.usedGrant_times (s : State) (bus : Bus) : (s.usedGrant bus).times = s.times := by
  simp [State.times]

/-! ### The ways a meaning ends -/

theorem settle_agenda_mem {l : List Frame} {s : State} {f : Frame} (h : f ∈ (settle l s).agenda) : f ∈ l := by
  induction l generalizing s with
  | nil => exact h
  | cons g l ih =>
    cases g with
    | act a => exact List.mem_cons_of_mem _ (ih h)
    | op | word | log => exact h

theorem doAct_lastTx (s : State) (a : Act) : (doAct s a).lastTx = if a = .lastTx then s.now else s.lastTx := by
  cases a <;> simp only [doAct, reduceCtorEq, if_true, if_false] <;> split <;> rfl

/-- Silent actions write LAST_TX only with NOW, and only where that write is among them. -/
theorem settle_lastTx (l : List Frame) (s : State) :
    (settle l s).lastTx = s.lastTx ∨ (.act .lastTx ∈ l ∧ (settle l s).lastTx = s.now) := by
  induction l generalizing s with
  | nil => exact .inl rfl
  | cons g l ih =>
    cases g with
    | act a =>
      have ih := ih (doAct s a)
      rw [doAct_now, doAct_lastTx] at ih
      rw [settle_act]
      obtain hsame | ⟨hin, hnow⟩ := ih
      · split at hsame
        next ha => exact .inr ⟨ha ▸ List.mem_cons_self, hsame⟩
        next => exact .inl hsame
      · exact .inr ⟨List.mem_cons_of_mem _ hin, hnow⟩
    | op | word | log => exact .inl rfl

theorem settle_stay (s : State) : s.times.Stay (settle s.agenda s).times where
  ts := settle_ts _ _
  now := settle_now _ _
  lastStore := settle_lastStore _ _
  lastTx := settle_lastTx _ _
  lastClk := settle_lastClk _ _
  trace := ⟨[], by simp [State.times, waitsOf]⟩
  agenda _ hf := .inl (settle_agenda_mem hf)

theorem keepsTimes_next {t : State} {m : Times} (h : m.Stay t.times) : KeepsTimes (.next t) m := by
  rintro _ ⟨⟩
  exact h

theorem keepsTimes_fault (f : Fault) (m : Times) : KeepsTimes (.fault f) m := fun _ h => by cases h

theorem keepsTimes_refused (r : Refusal) (m : Times) : KeepsTimes (.refused r) m := fun _ h => by cases h

theorem done_keepsTimes (s : State) : KeepsTimes (done s) s.times := keepsTimes_next (settle_stay s)

/-- An event that is no clock value and no store, with the wait that it may be counted. -/
theorem event_keepsTimes_of_waited {s : State} {e : Event} {m : Times} (he : e.timeless = true)
    (h : s.times = { m with waited := m.waited + waitsOf [e] }) : KeepsTimes (event s e) m := by
  refine .of_stay ?_ (done_keepsTimes (s.emit e))
  simp only [State.times, Times.mk.injEq] at h
  obtain ⟨hts, hnow, hlastStore, hlastTx, hlastClk, hwaited, htrace, hagenda⟩ := h
  exact ⟨hts, hnow, hlastStore, .inl hlastTx, hlastClk,
    ⟨[e], congrArg (· ++ [e]) htrace, hwaited, by simpa using he⟩, fun f hf => .inl (hagenda ▸ hf)⟩

theorem event_keepsTimes (s : State) {e : Event} (he : e.timeless = true) (hw : waitsOf [e] = 0) :
    KeepsTimes (event s e) s.times :=
  event_keepsTimes_of_waited he (by rw [hw]; rfl)

/-- The clock registers are as they were, and what was in progress is replaced. -/
theorem stay_of_abandoned {s t : State} (h : { t.times with agenda := s.agenda } = s.times)
    (hl : ∀ f ∈ t.agenda, f.plain = true) : s.times.Stay t.times := by
  simp only [State.times, Times.mk.injEq] at h
  obtain ⟨hts, hnow, hlastStore, hlastTx, hlastClk, hwaited, htrace, -⟩ := h
  exact ⟨hts, hnow, hlastStore, .inl hlastTx, hlastClk,
    ⟨[], htrace.trans (List.append_nil _).symm, hwaited, fun _ h => by cases h⟩, fun f hf => .inr (hl f hf)⟩

theorem refuse_keepsTimes (s : State) : KeepsTimes (refuse s) s.times :=
  keepsTimes_next (stay_of_abandoned rfl fun _ h => by cases h)

theorem takeLoopFault_stay (c : Cause) (s : State) : s.times.Stay (takeLoopFault c s).times :=
  stay_of_abandoned rfl (by simp [takeLoopFault, Frame.plain, clockless])

theorem endFailed_stay (c : Cause) (s : State) : s.times.Stay (endFailed c s).times :=
  stay_of_abandoned rfl fun _ h => by cases h

/-- A boundary passes, or a condition is taken at it, which moves no clock register. -/
theorem atBoundary_next_stay {s t : State} {k : State → Result} (h : atBoundary s k = .next t) :
    (s.Calm ∧ k s.passed = .next t) ∨ s.times.Stay t.times := by
  obtain hpassed | ⟨c, -, -, rfl⟩ | ⟨c, -, -, rfl⟩ := atBoundary_next h
  · exact .inl hpassed
  · exact .inr (takeLoopFault_stay _ s.usedFault)
  · exact .inr (endFailed_stay _ s.usedFault)

theorem atBoundary_keepsTimes (s : State) {k : State → Result} (hk : ∀ u, KeepsTimes (k u) u.times) :
    KeepsTimes (atBoundary s k) s.times := by
  intro t h
  obtain ⟨-, hpassed⟩ | hstay := atBoundary_next_stay h
  · simpa using hk s.passed t hpassed
  · exact hstay

theorem push_stay (s : State) {l : List Frame} (hl : l.all Frame.plain = true) : s.times.Stay (s.push l).times :=
  { Times.Stay.refl s.times with
    agenda := fun f hf => (List.mem_append.mp hf).elim (fun h => .inr (List.all_eq_true.mp hl f h)) .inl }

/-! ### The primitives and the burst -/

theorem opAcquire_keepsTimes (bus : Bus) (s : State) : KeepsTimes (opAcquire bus s) s.times := by
  refine atBoundary_keepsTimes s fun u => ?_
  split
  · have h := event_keepsTimes { ((u.usedGrant bus).setHeld true bus).setCfgv false bus with rx := [] }
      (e := .acq bus) rfl rfl
    simpa [State.times] using h
  · exact keepsTimes_next (u.usedGrant_times bus ▸ push_stay _ rfl)

theorem opConfigure_keepsTimes (bus : Bus) (s : State) : KeepsTimes (opConfigure bus s) s.times := by
  unfold opConfigure
  split
  · exact atBoundary_keepsTimes s fun u => by simpa using event_keepsTimes (u.setCfgv true bus) rfl rfl
  · exact keepsTimes_fault _ _

theorem opCsLow_keepsTimes (d : Device) (s : State) : KeepsTimes (opCsLow d s) s.times := by
  unfold opCsLow
  split
  · exact atBoundary_keepsTimes s fun u => by simpa using event_keepsTimes (u.setCsn false d) rfl rfl
  · exact keepsTimes_fault _ _

theorem opWait_keepsTimes (n : Nat) (s : State) : KeepsTimes (opWait n s) s.times := by
  unfold opWait
  split
  · exact atBoundary_keepsTimes s fun _ => event_keepsTimes_of_waited rfl rfl
  · exact keepsTimes_fault _ _

theorem opXfer_keepsTimes (bus : Bus) (tx : Byte) (s : State) : KeepsTimes (opXfer bus tx s) s.times := by
  unfold opXfer
  split
  · exact atBoundary_keepsTimes s fun _ => event_keepsTimes _ rfl rfl
  · exact keepsTimes_fault _ _

theorem opCsHigh_keepsTimes (d : Device) (s : State) : KeepsTimes (opCsHigh d s) s.times :=
  atBoundary_keepsTimes s fun u => by simpa using event_keepsTimes (u.setCsn true d) rfl rfl

theorem opRelease_keepsTimes (bus : Bus) (s : State) : KeepsTimes (opRelease bus s) s.times := by
  unfold opRelease
  split
  · exact atBoundary_keepsTimes s fun u => by simpa using event_keepsTimes (u.setHeld false bus) rfl rfl
  · exact keepsTimes_fault _ _

theorem opSetMux_keepsTimes (sel : BitVec 4) (s : State) : KeepsTimes (opSetMux sel s) s.times :=
  atBoundary_keepsTimes s fun _ => event_keepsTimes _ rfl rfl

theorem burstTail_plain (bus : Bus) (d : Device) (setup : Nat) (tx : List Byte) :
    (burstTail bus d setup tx).all Frame.plain = true := by
  unfold burstTail
  split <;> simp [Frame.plain, clockless]

/-- A burst, and what follows it. -/
theorem burstThen_keepsTimes (bus : Bus) (d : Device) (setup : Nat) (tx : List Byte) {after : List Frame} (s : State)
    (hl : after.all Frame.plain = true) : KeepsTimes (opBurst bus d setup tx (s.push after)) s.times :=
  .of_stay (push_stay s hl) (.of_stay (push_stay _ (burstTail_plain bus d setup tx)) (opAcquire_keepsTimes bus _))

theorem execBurst_keepsTimes (bus : Bus) (d : Device) (setup : Nat) (tx : List Byte) (s : State) :
    KeepsTimes (execBurst bus d setup tx s) s.times := by
  unfold execBurst
  split
  · exact burstThen_keepsTimes bus d setup tx (after := []) s rfl
  · exact keepsTimes_fault _ _

/-! ### The CAN Link Driver -/

theorem opLoadTx0_keepsTimes (id : BitVec 11) (data : List Byte) {after : List Frame} (s : State)
    (hl : after.all Frame.plain = true) : KeepsTimes (opLoadTx0 id data after s) s.times := by
  unfold opLoadTx0
  split
  · exact burstThen_keepsTimes _ _ _ _ s (by simpa [Frame.plain, clockless] using hl)
  · exact burstThen_keepsTimes _ _ _ _ s (by simpa [Frame.plain, clockless] using hl)

theorem execCanLoadTx0Cmd_keepsTimes (id : BitVec 11) (data : List Byte) (s : State) :
    KeepsTimes (execCanLoadTx0Cmd id data s) s.times := by
  unfold execCanLoadTx0Cmd
  split
  · exact opLoadTx0_keepsTimes id data s rfl
  · exact keepsTimes_fault _ _

theorem opSendFrame_keepsTimes (id : BitVec 16) (data : List Byte) {after : List Frame}
    {onError : TxError → State → Result} (herr : ∀ e u, KeepsTimes (onError e u) u.times) (s : State)
    (hl : after.all Frame.plain = true) : KeepsTimes (opSendFrame id data after onError s) s.times := by
  unfold opSendFrame
  split
  · exact refuse_keepsTimes s
  · split
    · exact herr _ s
    · split
      · exact herr _ s
      · exact opLoadTx0_keepsTimes _ _ s (by simpa [Frame.plain, clockless] using hl)

theorem opCanReset_keepsTimes (s : State) : KeepsTimes (opCanReset s) s.times :=
  burstThen_keepsTimes _ _ _ _ { s with canst := .resetting } rfl

theorem opCfgWrite_keepsTimes (k : Fin 5) (s : State) : KeepsTimes (opCfgWrite k s) s.times :=
  burstThen_keepsTimes _ _ _ _ (s.setPc .canCfg k.val) rfl

/-! ### The Analog Sampler and frame splitting -/

theorem opReadDirect_keepsTimes (i : Fin 7) (s : State) : KeepsTimes (opReadDirect i s) s.times :=
  burstThen_keepsTimes _ _ _ _ (s.setPc .sample i.val) rfl

theorem opReadMuxed_keepsTimes (j : Fin 16) (s : State) : KeepsTimes (opReadMuxed j s) s.times :=
  .of_stay (push_stay (s.setPc .sample (j.val + 7)) rfl) (opSetMux_keepsTimes _ _)

theorem execAdcAnswer_keepsTimes (hi : BitVec 4) (v : Reading) (s : State) :
    KeepsTimes (execAdcAnswer hi v s) s.times :=
  done_keepsTimes _

theorem execRd16Word_keepsTimes (v : Reading) (s : State) : KeepsTimes (execRd16Word v s) s.times :=
  done_keepsTimes _

theorem execPack_keepsTimes (s : State) : KeepsTimes (execPack s) s.times := by
  unfold execPack
  generalize packed s.x = pay
  split
  · exact keepsTimes_fault _ _
  · exact done_keepsTimes _

theorem execSplit_keepsTimes (k : Fin 6) (s : State) : KeepsTimes (execSplit k s) s.times := by
  unfold execSplit
  split
  · exact keepsTimes_fault _ _
  · exact done_keepsTimes _

theorem interframe_plain (p : Config.Params) (k : Nat) : (interframe p k).all Frame.plain = true := by
  unfold interframe
  split
  · rfl
  · rfl

theorem opChunk_keepsTimes (k : Fin 6) (s : State) : KeepsTimes (opChunk k s) s.times := by
  unfold opChunk
  split
  · exact refuse_keepsTimes (s.setPc .tx k.val)
  · split
    · exact keepsTimes_fault _ _
    · refine opSendFrame_keepsTimes _ _ (fun e u => keepsTimes_next (takeLoopFault_stay (.txError e) u))
        (s.setPc .tx k.val) ?_
      rw [List.all_append, interframe_plain]
      rfl

/-- SEND_READINGS is its first chunk, with the others and what follows in progress. -/
theorem opSendReadings_keepsTimes (after : List Frame) (s : State) :
    KeepsTimes (opSendReadings after s)
      (s.push (chunkRows.tail.map Frame.op ++ Frame.act .dropPay :: after)).times := by
  unfold opSendReadings
  generalize packed s.x = pay
  split
  · exact keepsTimes_fault _ _
  · exact opChunk_keepsTimes 0 (State.push { s with pay := pay, payLive := true } _)

/-! ### The Cyclic Scheduler -/

theorem execRun_keepsTimes (s : State) : KeepsTimes (execRun s) s.times := by
  unfold execRun
  split
  · exact done_keepsTimes _
  · exact keepsTimes_fault _ _

theorem execStopCheck_keepsTimes (s : State) : KeepsTimes (execStopCheck s) s.times :=
  atBoundary_keepsTimes s fun _ => event_keepsTimes _ rfl rfl

theorem execShutdown_keepsTimes (s : State) : KeepsTimes (execShutdown s) s.times :=
  atBoundary_keepsTimes s fun _ => event_keepsTimes _ rfl rfl

theorem opLog_keepsTimes (c : Cause) (s : State) : KeepsTimes (opLog c s) s.times :=
  atBoundary_keepsTimes s fun _ => event_keepsTimes _ rfl rfl

/-- What an instruction can do to the clock registers: nothing of its own, or what R109, R112, R113 or R114 gives it to do. -/
inductive TimeStep (s : State) : Instr → State → Prop
  | stay {i : Instr} {t : State} : s.times.Stay t.times → TimeStep s i t
  | start {v : Nat} {t : State} : s.clockFloor ≤ v →
      (State.times { s with lastStore := some v, lastTx := some v, lastClk := some v, waited := 0,
                            trace := s.trace ++ [.clk v] }).Stay t.times → TimeStep s .schedInit t
  | read {v : Nat} {t : State} : s.clockFloor ≤ v →
      (State.times { s with now := some v, ts := some v, lastClk := some v, waited := 0,
                            trace := s.trace ++ [.clk v] }).Stay t.times → TimeStep s .readClock t
  | store {now last ts : Nat} {v : List Reading} {r : Config.StoreResult} {t : State} :
      s.now = some now → s.lastStore = some last → s.ts = some ts → last + 1000000 ≤ now →
      (State.times { s with lastStore := some now, trace := s.trace ++ [.store ts v r] }).Stay t.times →
      TimeStep s .storeIfDue t
  | send {now last : Nat} {l : List Frame} {t : State} :
      s.now = some now → s.lastTx = some last → last + 500000 ≤ now → (∀ f ∈ l, clockless f = true) →
      (s.push l).times.Stay t.times → TimeStep s .txIfDue t

theorem clockFloor_le_clockIn (s : State) : s.clockFloor ≤ s.clockIn := Nat.le_add_right _ _

theorem State.passed_clockFloor (s : State) : s.passed.clockFloor = s.clockFloor := by simp [State.clockFloor]

theorem execSchedInit_timeStep {s t : State} (h : execSchedInit s = .next t) : TimeStep s .schedInit t := by
  obtain ⟨-, hpassed⟩ | hstay := atBoundary_next_stay h
  · refine .start (s.passed_clockFloor ▸ clockFloor_le_clockIn s.passed) ?_
    have hstay := done_keepsTimes _ t hpassed
    rw [passed_eq s] at hstay ⊢
    exact hstay
  · exact .stay hstay

theorem execReadClock_timeStep {s t : State} (h : execReadClock s = .next t) : TimeStep s .readClock t := by
  obtain ⟨-, hpassed⟩ | hstay := atBoundary_next_stay h
  · refine .read (s.passed_clockFloor ▸ clockFloor_le_clockIn s.passed) ?_
    have hstay := done_keepsTimes _ t hpassed
    rw [passed_eq s] at hstay ⊢
    exact hstay
  · exact .stay hstay

theorem execStoreIfDue_timeStep {s t : State} (h : execStoreIfDue s = .next t) : TimeStep s .storeIfDue t := by
  unfold execStoreIfDue at h
  split at h
  next now last hnow hlast =>
    split at h
    next hdue =>
      have hdue : 1000000 ≤ now - last := of_decide_eq_true hdue
      split at h
      next ts v hts _ =>
        obtain ⟨-, hpassed⟩ | hstay := atBoundary_next_stay h
        · refine .store (v := v) (r := s.passed.storeIn) hnow hlast hts (by omega) ?_
          have hstay := done_keepsTimes _ t hpassed
          rw [passed_eq s] at hstay ⊢
          exact hstay
        · exact .stay hstay
      next => cases h
    next => exact .stay (done_keepsTimes (s.setPc .tx 0) t h)
  next => cases h

theorem execTxIfDue_timeStep {s t : State} (h : execTxIfDue s = .next t) : TimeStep s .txIfDue t := by
  unfold execTxIfDue at h
  split at h
  next now last hnow hlast =>
    split at h
    next hdue =>
      have hdue : 500000 ≤ now - last := of_decide_eq_true hdue
      exact .send hnow hlast (by omega) (by decide) (opSendReadings_keepsTimes _ s t h)
    next => exact .stay (done_keepsTimes (s.setPc .sleep 0) t h)
  next => cases h

/-! ### Every instruction -/

theorem exec_timeStep {i : Instr} {s t : State} (h : exec i s = .next t) : TimeStep s i t := by
  cases i with
  | schedInit => exact execSchedInit_timeStep h
  | readClock => exact execReadClock_timeStep h
  | storeIfDue => exact execStoreIfDue_timeStep h
  | txIfDue => exact execTxIfDue_timeStep h
  | adcCmd | adcCmdA0 | adcCmdA1 | adcCmdA2 | adcCmdA3 | adcCmdA4 | adcCmdA5 | adcCmdA6 | adcCmdA7 | canResetCmd
  | canRts0Cmd | canWriteCmd | canWriteCmdW1 | canWriteCmdW2 | canWriteCmdW3 | canWriteCmdW4 | canWriteCmdW5 | readAdc =>
    exact .stay (burstThen_keepsTimes _ _ _ _ s rfl t h)
  | adcAnswer hi v => exact .stay (execAdcAnswer_keepsTimes hi v s t h)
  | rd16Word v => exact .stay (execRd16Word_keepsTimes v s t h)
  | muxPattern sel | muxSet sel => exact .stay (opSetMux_keepsTimes sel s t h)
  | canLoadTx0Cmd id data => exact .stay (execCanLoadTx0Cmd_keepsTimes id data s t h)
  | canReset => exact .stay (opCanReset_keepsTimes s t h)
  | canInit => exact .stay ((push_stay (s.setPc .canReset 0) rfl).trans (opCanReset_keepsTimes _ t h))
  | canConfigure =>
    exact .stay ((push_stay { s with canst := .configuring } rfl).trans (opCfgWrite_keepsTimes 0 _ t h))
  | cfgWrite1 | cfgWrite2 | cfgWrite3 | cfgWrite4 | cfgWrite5 => exact .stay (opCfgWrite_keepsTimes _ s t h)
  | sendFrame id data =>
    exact .stay (opSendFrame_keepsTimes id data (fun e u => done_keepsTimes { u with ret := .txError e }) s rfl t h)
  | sampleAll =>
    exact .stay ((push_stay { s with x := Vector.replicate 23 none } rfl).trans (opReadDirect_keepsTimes 0 _ t h))
  | readDirect0 | readDirect1 | readDirect2 | readDirect3 | readDirect4 | readDirect5 | readDirect6 =>
    exact .stay (opReadDirect_keepsTimes _ s t h)
  | readMuxed7 | readMuxed8 | readMuxed9 | readMuxed10 | readMuxed11 | readMuxed12 | readMuxed13 | readMuxed14
  | readMuxed15 | readMuxed16 | readMuxed17 | readMuxed18 | readMuxed19 | readMuxed20 | readMuxed21 | readMuxed22 =>
    exact .stay (opReadMuxed_keepsTimes _ s t h)
  | pack => exact .stay (execPack_keepsTimes s t h)
  | split k => exact .stay (execSplit_keepsTimes k s t h)
  | sendChunk0 | sendChunk1 | sendChunk2 | sendChunk3 | sendChunk4 | sendChunk5 =>
    exact .stay (opChunk_keepsTimes _ s t h)
  | sendReadings => exact .stay ((push_stay s rfl).trans (opSendReadings_keepsTimes [] s t h))
  | acq bus => exact .stay (opAcquire_keepsTimes bus s t h)
  | cfg bus => exact .stay (opConfigure_keepsTimes bus s t h)
  | csl d => exact .stay (opCsLow_keepsTimes d s t h)
  | wait n => exact .stay (opWait_keepsTimes n s t h)
  | xfer bus tx => exact .stay (opXfer_keepsTimes bus tx s t h)
  | csh d => exact .stay (opCsHigh_keepsTimes d s t h)
  | rel bus => exact .stay (opRelease_keepsTimes bus s t h)
  | burst bus d setup tx => exact .stay (execBurst_keepsTimes bus d setup tx s t h)
  | pIdle =>
    cases h
    exact .stay (Times.Stay.refl s.times)
  | run => exact .stay (execRun_keepsTimes s t h)
  | stopCheck => exact .stay (execStopCheck_keepsTimes s t h)
  | shutdown => exact .stay (execShutdown_keepsTimes s t h)
  | loopSleep => exact .stay ((push_stay s rfl).trans (opWait_keepsTimes Config.tLoopSleep _ t h))
  | pStopped | pFailed => cases h

/-! ### The step -/

/-- The head of what is in progress is taken. -/
theorem tail_stay {s : State} {f : Frame} {l : List Frame} (hl : s.agenda = f :: l) :
    s.times.Stay (State.times { s with agenda := l }) :=
  { Times.Stay.refl s.times with
    agenda := fun g hg => .inl (show g ∈ s.agenda from hl ▸ List.mem_cons_of_mem f hg) }

/-- What a step runs: the phase's row where nothing is in progress, the operation or the word at the head of what is, or
something that moves no clock register. -/
theorem step_runs {s t : State} (h : step s = .next t) :
    s.times.Stay t.times ∨
    (s.agenda = [] ∧ ∃ i, decodePc s.pc = .ok i ∧ exec i s = .next t) ∨
    ∃ f i l, s.agenda = f :: l ∧ (f = .op i ∨ clockless f = false) ∧ exec i { s with agenda := l } = .next t := by
  rcases hl : s.agenda with _ | ⟨f, l⟩
  · simp only [step, hl] at h
    split at h
    next i hi => exact .inr (.inl ⟨rfl, i, hi, h⟩)
    next => cases h
  · have hrest := tail_stay hl
    simp only [step, hl] at h
    cases f with
    | word n w =>
      dsimp only at h
      split at h
      next i _ => exact .inr (.inr ⟨_, i, l, rfl, .inr rfl, h⟩)
      next => cases h
    | op i => exact .inr (.inr ⟨_, i, l, rfl, .inl rfl, h⟩)
    | log c => exact .inl (hrest.trans (opLog_keepsTimes c _ t h))
    | act a =>
      cases h
      have hstay := settle_stay s
      rw [hl] at hstay
      exact .inl hstay

/-- What no instruction breaks, no step breaks. -/
theorem step_keeps {P : State → Prop} (hP : ∀ {s t i}, P s → TimeStep s i t → P t) {s t : State} (hs : P s)
    (h : step s = .next t) : P t := by
  obtain hstay | ⟨-, i, -, hexec⟩ | ⟨f, i, l, hl, -, hexec⟩ := step_runs h
  · exact hP (i := .pIdle) hs (.stay hstay)
  · exact hP hs (exec_timeStep hexec)
  · exact hP (hP (i := .pIdle) hs (.stay (tail_stay hl))) (exec_timeStep hexec)

/-! ### The clock values of a trace (R110) -/

theorem clockAfter_cons (e : Event) (l : List Event) (c : Option Nat × Nat) :
    clockAfter (e :: l) c = clockAfter l (clockAfter [e] c) := by
  cases e <;> rfl

theorem clockAfter_append (a b : List Event) (c : Option Nat × Nat) :
    clockAfter (a ++ b) c = clockAfter b (clockAfter a c) := by
  induction a generalizing c with
  | nil => rfl
  | cons e a ih => rw [List.cons_append, clockAfter_cons, ih, ← clockAfter_cons]

theorem clockAfter_timeless {es : List Event} (h : ∀ e ∈ es, e.timeless = true) (l : Option Nat) (w : Nat) :
    clockAfter es (l, w) = (l, w + waitsOf es) := by
  induction es generalizing w with
  | nil => rfl
  | cons e es ih =>
    obtain ⟨he, hes⟩ := List.forall_mem_cons.mp h
    have hone : clockAfter [e] (l, w) = (l, w + waitsOf [e]) := by
      cases e with
      | clk => cases he
      | acq | cfg | csl | csh | wait | xfer | rel | mux | stopq | store | unmount | log => rfl
    rw [clockAfter_cons, hone, ih hes, waitsOf_cons e es, Nat.add_assoc]

/-- After a clock value of a lawful trace, the last clock value with the waits since is at least that value with the waits
since it. -/
theorem le_clockAfter {b : List Event} {k l w : Nat} (hk : k ≤ l + w)
    (h : ∀ b' v c, b = b' ++ .clk v :: c → k + waitsOf b' ≤ v) :
    ∃ l' w', clockAfter b (some l, w) = (some l', w') ∧ k + waitsOf b ≤ l' + w' := by
  induction b generalizing k l w with
  | nil => exact ⟨l, w, rfl, hk⟩
  | cons e b ih =>
    have hrest : ∀ b' v c, b = b' ++ .clk v :: c → k + waitsOf [e] + waitsOf b' ≤ v := fun b' v c hb => by
      have := h (e :: b') v c (by rw [hb, List.cons_append])
      rwa [waitsOf_cons, ← Nat.add_assoc] at this
    rw [waitsOf_cons, ← Nat.add_assoc]
    cases e with
    | clk v => exact ih (w := 0) (h [] v b rfl) hrest
    | wait n => exact ih (by simp only [waitsOf]; omega) hrest
    | acq | cfg | csl | csh | xfer | rel | mux | stopq | store | unmount | log => exact ih hk hrest

/-- Events after a lawful trace keep the laws where each clock value among them is late enough for every clock value before
them. -/
theorem ClockLawful.append {tr es : List Event} (h : ClockLawful tr)
    (hes : ∀ b v c, es = b ++ .clk v :: c → ∀ a u b', tr ++ b = a ++ .clk u :: b' → u + waitsOf b' ≤ v) :
    ClockLawful (tr ++ es) := by
  intro a b c u v heq
  rw [← List.cons_append, ← List.append_assoc] at heq
  obtain ⟨m, hearlier, hm⟩ | ⟨m, htr, hlater⟩ := List.append_eq_append_iff.mp heq
  · exact hes m v c hm a u b hearlier.symm
  · cases m with
    | nil => exact hes [] v c hlater.symm a u b (by simpa using htr)
    | cons e m =>
      obtain ⟨rfl, -⟩ := List.cons.inj hlater
      exact h a b m u v (by rw [htr, List.append_assoc, List.cons_append])

theorem State.ClockInv.stay {s t : State} (hs : s.ClockInv) (h : s.times.Stay t.times) : t.ClockInv := by
  obtain ⟨hafter, hlawful⟩ := hs
  obtain ⟨es, htrace, hwaited, hes⟩ := h.trace
  have htrace : t.trace = s.trace ++ es := htrace
  have hwaited : t.waited = s.waited + waitsOf es := hwaited
  have hlast : t.lastClk = s.lastClk := h.lastClk
  rw [State.ClockInv, htrace]
  refine ⟨by rw [clockAfter_append, hafter, clockAfter_timeless hes, hlast, hwaited],
    hlawful.append fun b v c hb => ?_⟩
  have htimeless := hes (.clk v) (by rw [hb]; exact List.mem_append_right _ List.mem_cons_self)
  cases htimeless

/-- A clock value that is not below the clock's floor keeps the laws (R110). -/
theorem State.ClockInv.clock {s t : State} {v : Nat} (hs : s.ClockInv) (hv : s.clockFloor ≤ v)
    (htrace : t.trace = s.trace ++ [.clk v]) (hlast : t.lastClk = some v) (hwaited : t.waited = 0) : t.ClockInv := by
  obtain ⟨hafter, hlawful⟩ := hs
  rw [State.ClockInv, htrace]
  refine ⟨by rw [clockAfter_append, hlast, hwaited]; rfl, hlawful.append fun b v' c hb a u b' hu => ?_⟩
  obtain ⟨rfl, rfl⟩ : b = [] ∧ v' = v := by
    cases b with
    | nil =>
      cases hb
      exact ⟨rfl, rfl⟩
    | cons e b => simp at hb
  rw [List.append_nil] at hu
  obtain ⟨l, w, hclock, hle⟩ := le_clockAfter (b := b') (k := u) (l := u) (w := 0) le_rfl fun b₁ v₁ c₁ hb₁ =>
    hlawful a b₁ c₁ u v₁ (by rw [hu, hb₁])
  rw [hu, clockAfter_append, clockAfter, hclock, Prod.mk.injEq] at hafter
  obtain ⟨hl, rfl⟩ := hafter
  rw [State.clockFloor, ← hl] at hv
  exact hle.trans hv

theorem State.ClockInv.timeStep {s t : State} {i : Instr} (hs : s.ClockInv) (h : TimeStep s i t) : t.ClockInv := by
  cases h with
  | stay h => exact hs.stay h
  | start hv h => exact (hs.clock hv rfl rfl rfl).stay h
  | read hv h => exact (hs.clock hv rfl rfl rfl).stay h
  | store _ _ _ _ h =>
    obtain ⟨hafter, hlawful⟩ := hs
    refine State.ClockInv.stay ⟨?_, hlawful.append fun b v c hb => ?_⟩ h
    · rw [clockAfter_append, hafter]
      rfl
    · cases b <;> simp at hb
  | @send _ _ l _ _ _ _ _ h => exact State.ClockInv.stay (s := s.push l) hs h

/-- Settles O53: a clock value is not below the clock's floor, and no other event is a clock value. -/
theorem clockObeysItsLaws : Obligations.ClockObeysItsLaws :=
  ⟨⟨rfl, fun a b c u v h => by cases a <;> cases h⟩, fun s t => step_keeps State.ClockInv.timeStep⟩

/-! ### The stores of a trace (R118) -/

theorem storeTimes_append (a b : List Event) : storeTimes (a ++ b) = storeTimes a ++ storeTimes b :=
  List.filterMap_append

theorem storeTimes_timeless {es : List Event} (h : ∀ e ∈ es, e.timeless = true) : storeTimes es = [] := by
  refine List.filterMap_eq_nil_iff.mpr fun e he => ?_
  have htimeless := h e he
  cases e with
  | store => cases htimeless
  | acq | cfg | csl | csh | wait | xfer | rel | mux | clk | stopq | unmount | log => rfl

theorem State.StoreInv.stay {s t : State} (hs : s.StoreInv) (h : s.times.Stay t.times) : t.StoreInv := by
  obtain ⟨es, htrace, -, hes⟩ := h.trace
  have htimes : storeTimes t.trace = storeTimes s.trace := by
    rw [show t.trace = s.trace ++ es from htrace, storeTimes_append, storeTimes_timeless hes, List.append_nil]
  have hts : t.ts = s.ts := h.ts
  have hnow : t.now = s.now := h.now
  have hlastStore : t.lastStore = s.lastStore := h.lastStore
  have hlastClk : t.lastClk = s.lastClk := h.lastClk
  rwa [State.StoreInv, hts, hnow, hlastStore, hlastClk, htimes]

theorem le_of_clockFloor_le {s : State} {a v : Nat} (h : ∃ c, s.lastClk = some c ∧ a ≤ c) (hv : s.clockFloor ≤ v) :
    a ≤ v := by
  obtain ⟨c, hc, hle⟩ := h
  rw [State.clockFloor, hc] at hv
  exact hle.trans (Nat.le_of_add_right_le hv)

/-- SCHED_INIT moves LAST_STORE to a clock value, which no store so far is later than. -/
theorem State.StoreInv.start {s : State} {v : Nat} (hs : s.StoreInv) (hv : s.clockFloor ≤ v) :
    State.StoreInv { s with lastStore := some v, lastTx := some v, lastClk := some v, waited := 0,
                            trace := s.trace ++ [.clk v] } := by
  obtain ⟨hts, hnow, hlast, hstores, hapart⟩ := hs
  have htimes : storeTimes (s.trace ++ [.clk v]) = storeTimes s.trace := by
    rw [storeTimes_append]
    exact List.append_nil _
  rw [State.StoreInv, htimes]
  refine ⟨hts, fun n hn => ⟨v, rfl, le_of_clockFloor_le (hnow n hn) hv⟩, fun a ha => ⟨v, rfl, ?_⟩,
    fun t ht => ⟨v, rfl, ?_⟩, hapart⟩
  · cases ha
    exact le_rfl
  · obtain ⟨a, ha, hle⟩ := hstores t ht
    exact hle.trans (le_of_clockFloor_le (hlast a ha) hv)

/-- READ_CLOCK moves NOW and TS together to a clock value. -/
theorem State.StoreInv.read {s : State} {v : Nat} (hs : s.StoreInv) (hv : s.clockFloor ≤ v) :
    State.StoreInv { s with now := some v, ts := some v, lastClk := some v, waited := 0,
                            trace := s.trace ++ [.clk v] } := by
  obtain ⟨-, -, hlast, hstores, hapart⟩ := hs
  have htimes : storeTimes (s.trace ++ [.clk v]) = storeTimes s.trace := by
    rw [storeTimes_append]
    exact List.append_nil _
  rw [State.StoreInv, htimes]
  refine ⟨rfl, fun n hn => ⟨v, rfl, ?_⟩, fun a ha => ⟨v, rfl, le_of_clockFloor_le (hlast a ha) hv⟩, hstores, hapart⟩
  cases hn
  exact le_rfl

/-- A store that is due has TS, which is NOW, a period after LAST_STORE, and so after every store before. -/
theorem State.StoreInv.store {s : State} {now last ts : Nat} {v : List Reading} {r : Config.StoreResult}
    (hs : s.StoreInv) (hn : s.now = some now) (hl : s.lastStore = some last) (ht : s.ts = some ts)
    (hdue : last + 1000000 ≤ now) :
    State.StoreInv { s with lastStore := some now, trace := s.trace ++ [.store ts v r] } := by
  obtain ⟨hts, hnow, -, hstores, hapart⟩ := hs
  obtain rfl : ts = now := Option.some.inj (ht.symm.trans (hts.trans hn))
  have hbefore : ∀ t ∈ storeTimes s.trace, t ≤ last := fun t hmem => by
    obtain ⟨a, ha, hle⟩ := hstores t hmem
    rwa [← Option.some.inj (ha.symm.trans hl)]
  have htimes : storeTimes (s.trace ++ [.store ts v r]) = storeTimes s.trace ++ [ts] := storeTimes_append _ _
  rw [State.StoreInv, htimes]
  refine ⟨hts, hnow, fun a ha => ?_, fun t hmem => ⟨ts, rfl, ?_⟩,
    List.pairwise_append.mpr ⟨hapart, List.pairwise_singleton _ _, fun t hmem u hu => ?_⟩⟩
  · cases ha
    exact hnow ts hn
  · obtain hmem | hmem := List.mem_append.mp hmem
    · have := hbefore t hmem
      omega
    · exact (List.mem_singleton.mp hmem).le
  · have := hbefore t hmem
    rw [List.mem_singleton.mp hu]
    omega

theorem State.StoreInv.timeStep {s t : State} {i : Instr} (hs : s.StoreInv) (h : TimeStep s i t) : t.StoreInv := by
  cases h with
  | stay h => exact hs.stay h
  | start hv h => exact (hs.start hv).stay h
  | read hv h => exact (hs.read hv).stay h
  | store hn hl ht hdue h => exact (hs.store hn hl ht hdue).stay h
  | @send _ _ l _ _ _ _ _ h => exact State.StoreInv.stay (s := s.push l) hs h

/-! ### The transmissions (R118) -/

/-- LAST_TX is left, or moves to a NOW at least TX_PERIOD after its old value. -/
def State.TxKept (s t : State) : Prop :=
  t.lastTx = s.lastTx ∨
  ∃ now last, s.now = some now ∧ s.lastTx = some last ∧ last + 500000 ≤ now ∧ t.lastTx = some now

theorem State.TxInv.stay {s t : State} (hs : s.TxInv) (h : s.times.Stay t.times) : t.TxInv ∧ s.TxKept t := by
  obtain ⟨hclockless, hdue⟩ := hs
  have hnow : t.now = s.now := h.now
  have hlastTx : t.lastTx = s.lastTx ∨ (.act .lastTx ∈ s.agenda ∧ t.lastTx = s.now) := h.lastTx
  have hmem : ∀ f ∈ t.agenda, f ∈ s.agenda ∨ f.plain = true := h.agenda
  refine ⟨⟨List.all_eq_true.mpr fun f hf => ?_, fun hf => ?_⟩, ?_⟩
  · obtain hold | hplain := hmem f hf
    · exact List.all_eq_true.mp hclockless f hold
    · exact (Bool.and_eq_true_iff.mp hplain).1
  · obtain ⟨now, last, hn, hl, hle⟩ := hdue ((hmem _ hf).resolve_right (by decide))
    rw [hnow]
    obtain hsame | ⟨-, hmoved⟩ := hlastTx
    · exact ⟨now, last, hn, hsame.trans hl, hle⟩
    · exact ⟨now, now, hn, hmoved.trans hn, .inl rfl⟩
  · obtain hsame | ⟨hin, hmoved⟩ := hlastTx
    · exact .inl hsame
    · obtain ⟨now, last, hn, hl, rfl | hle⟩ := hdue hin
      · exact .inl (hmoved.trans (hn.trans hl.symm))
      · exact .inr ⟨now, last, hn, hl, hle, hmoved.trans hn⟩

/-- Where nothing was in progress, what comes to be in progress leaves LAST_TX alone. -/
theorem txInv_of_idle {m : Times} {t : State} (h : m.Stay t.times) (hm : m.agenda = []) :
    t.TxInv ∧ t.lastTx = m.lastTx := by
  have hplain : ∀ f ∈ t.agenda, f.plain = true := fun f hf =>
    (h.agenda f hf).resolve_left fun hin => by
      rw [hm] at hin
      cases hin
  refine ⟨⟨List.all_eq_true.mpr fun f hf => (Bool.and_eq_true_iff.mp (hplain f hf)).1, fun hf => ?_⟩,
    h.lastTx.resolve_right fun ⟨hin, _⟩ => ?_⟩
  · cases hplain _ hf
  · rw [hm] at hin
    cases hin

/-- An item in progress reads no clock and begins no timed transmission. -/
theorem State.TxInv.of_clockless {s t : State} {i : Instr} (hs : s.TxInv) (hi : clockless (.op i) = true)
    (h : TimeStep s i t) : t.TxInv ∧ s.TxKept t := by
  cases h with
  | stay h => exact hs.stay h
  | @store now _ ts v r _ _ _ _ _ h =>
    exact State.TxInv.stay (s := { s with lastStore := some now, trace := s.trace ++ [.store ts v r] }) hs h
  | start | read | send => cases hi

/-- Where nothing is in progress, SCHED_INIT alone moves LAST_TX, and TX_IF_DUE leaves its move for later. -/
theorem txInv_of_phase {s t : State} {i : Instr} (hl : s.agenda = []) (h : TimeStep s i t) :
    t.TxInv ∧ (s.TxKept t ∨ i = .schedInit) := by
  cases h with
  | stay h => exact (txInv_of_idle h hl).imp_right fun hsame => .inl (.inl hsame)
  | start _ h => exact ⟨(txInv_of_idle h hl).1, .inr rfl⟩
  | read _ h => exact (txInv_of_idle h hl).imp_right fun hsame => .inl (.inl hsame)
  | store _ _ _ _ h => exact (txInv_of_idle h hl).imp_right fun hsame => .inl (.inl hsame)
  | @send now last l _ hn hlast hdue hclockless h =>
    have hu : (s.push l).TxInv := by
      refine ⟨?_, fun _ => ⟨now, last, hn, hlast, .inr hdue⟩⟩
      rw [State.push, hl, List.append_nil]
      exact List.all_eq_true.mpr hclockless
    obtain ⟨hinv, hkept⟩ := hu.stay h
    exact ⟨hinv, .inl hkept⟩

theorem rowAt_schedInit {p : Phase} {k : Nat} (hk : k ≤ lastIndex p) (h : rowAt p k = .schedInit) :
    p = .schedInit ∧ k = 0 := by
  cases p with
  | schedInit => exact ⟨rfl, Nat.le_zero.mp hk⟩
  | canCfg =>
    change k ≤ 4 at hk
    interval_cases k <;> cases h
  | sample =>
    change k ≤ 22 at hk
    interval_cases k <;> cases h
  | tx =>
    change k ≤ 5 at hk
    interval_cases k <;> cases h
  | idle | canReset | stopCheck | clock | store | sleep | shutdown | stopped | failed => cases h

/-- SCHED_INIT is the row of P_SCHED_INIT alone (R17). -/
theorem pc_of_decodePc_schedInit {w : BitVec 9} (h : decodePc w = .ok .schedInit) : w = pcWord .schedInit 0 := by
  by_cases hindex : pcIndex w = 0
  · rw [decodePc, if_pos hindex] at h
    split at h
    next => cases h
    next p hp =>
      have hw := eq_pcWord hp
      rw [hindex] at hw
      cases p with
      | schedInit => exact hw
      | idle | canReset | canCfg | stopCheck | sample | clock | store | tx | sleep | shutdown | stopped | failed =>
        cases h
  · rw [decodePc, if_neg hindex] at h
    obtain ⟨p, k, hk, hw, hrow⟩ := decodePhaseWord_ok h
    obtain ⟨rfl, rfl⟩ := rowAt_schedInit hk hrow.symm
    exact absurd (by rw [pcIndex, hw]; rfl) hindex

theorem step_txInv {s t : State} (hs : s.TxInv) (h : step s = .next t) : t.TxInv ∧ TxMoves s t := by
  have hmoves (hkept : s.TxKept t) : TxMoves s t := hkept.imp_right .inr
  obtain hstay | ⟨hl, i, hi, hexec⟩ | ⟨f, i, l, hl, hf, hexec⟩ := step_runs h
  · exact (hs.stay hstay).imp_right hmoves
  · obtain ⟨hinv, hkept | rfl⟩ := txInv_of_phase hl (exec_timeStep hexec)
    · exact ⟨hinv, hmoves hkept⟩
    · exact ⟨hinv, .inr (.inl ⟨hl, pc_of_decodePc_schedInit hi⟩)⟩
  · obtain ⟨hclockless, hdue⟩ := hs
    rw [hl, List.all_cons, Bool.and_eq_true] at hclockless
    obtain ⟨hhead, htail⟩ := hclockless
    obtain rfl | hword := hf
    · have hu : State.TxInv { s with agenda := l } :=
        ⟨htail, fun hin => hdue (hl ▸ List.mem_cons_of_mem _ hin)⟩
      exact (hu.of_clockless hhead (exec_timeStep hexec)).imp_right hmoves
    · rw [hhead] at hword
      cases hword

/-- Settles O54: the stores follow LAST_STORE and the clock, the transmissions the write of LAST_TX in progress. -/
theorem storesAreAPeriodApart : Obligations.StoresAreAPeriodApart := by
  refine ⟨⟨rfl, ?_, ?_, ?_, List.Pairwise.nil⟩, (txInv_of_idle (.refl State.reset.times) rfl).1,
    fun s t => step_keeps State.StoreInv.timeStep, fun s t => step_txInv⟩
  · rintro n ⟨⟩
  · rintro a ⟨⟩
  · rintro t ⟨⟩

end Sys2Proof.Machine

/-! ## The transmission of a frame of readings (R124 to R127)

A chunk is one frame and the wait after it; it moves the phase register, so the six are chained over `Env.Uses`. -/

namespace Sys2Proof.Machine

/-! ### The payload and its chunks (R123, R124) -/

theorem frame_length {s : State} {v : List Reading} (h : s.frame = some v) : v.length = 23 := by
  have hlength := congrArg List.length (allWritten_eq_some.mp h)
  rw [List.length_map, Vector.length_toList] at hlength
  exact hlength.symm

/-- PACK of a written frame leaves its payload to be read (R123). -/
theorem packed_written {s : State} {v : List Reading} (h : s.frame = some v) :
    allWritten (packed s.x).toList = some (payloadOf v) := by
  have hlength : (payloadOf v).length = 46 := by rw [payloadOf_length, frame_length h]
  rw [allWritten_eq_some, packed_of_frame h, Vector.toList_ofFn]
  exact List.ext_getElem (by rw [List.length_ofFn, List.length_map, hlength]) fun j _ _ => by
    rw [List.getElem_ofFn, List.getElem_map]
    exact List.getElem?_eq_getElem _

/-- SPLIT k of written bytes is their chunk k (R124). -/
theorem chunk_of_written {pay : Vector (Option Byte) 46} {payload : List Byte} (h : allWritten pay.toList = some payload)
    (k : Fin 6) : chunk pay k.val = some (chunkOf payload k.val) := by
  have hpay := allWritten_eq_some.mp h
  have hlength : payload.length = 46 := by
    have hlength := congrArg List.length hpay
    rw [List.length_map, Vector.length_toList] at hlength
    exact hlength.symm
  have htake : (payload.drop (8 * k.val)).take (min (8 * k.val + 7) 45 + 1 - 8 * k.val) = chunkOf payload k.val := by
    rw [chunkOf, List.take_eq_take_iff, List.length_drop, hlength]
    omega
  rw [chunk, hpay, allWritten_eq_some, ← List.map_drop, ← List.map_take, htake]

theorem chunkId_setWidth (k : Fin 6) : (chunkId k.val).setWidth 11 = BitVec.ofNat 11 (0x100 + k.val) := by
  revert k
  decide

section
variable {s : State} {payload rs : List Byte} {e e' : Env} {k : Nat}

/-! ### One chunk (R126) -/

/-- A chunk of written bytes, in an Operational driver, is its frame from its phase register on. -/
theorem opChunk_sends {k : Fin 6} (hop : s.canst = .operational) (hpay : allWritten s.payload.toList = some payload) :
    opChunk k s = opLoadTx0 (BitVec.ofNat 11 (0x100 + k.val)) (chunkOf payload k.val)
      (.op .canRts0Cmd :: .act .sent :: (interframe s.params k.val ++ [.act (.setPc (nextTx k.val))]))
      (s.setPc .tx k.val) := by
  simp only [opChunk, hop, chunk_of_written hpay k, ne_eq, not_true_eq_false, if_false]
  rw [← chunkId_setWidth]
  exact opSendFrame_sends (s := s.setPc .tx k.val) hop (chunkId_le k) (List.length_take_le _ _)

/-- The time waited after chunk k (R126). -/
def chunkWait (p : Config.Params) (k : Nat) : Nat := if k < 5 ∨ p.ifdAfterLast = true then 5000 else 0

/-- The wait after chunk k, where there is one. -/
theorem run_interframe {a : Act} {l : List Frame} (hc : s.CalmFor 1) :
    ∃ e, s.Spends .busB e (interframeEvents s.params k).length 0 0 ∧
      Host.Core.run Sys2Proof.core (interframeEvents s.params k).length (settle (interframe s.params k ++ .act a :: l) s) =
        .next (settle (.act a :: l) { s with
          env := e, waited := s.waited + chunkWait s.params k, trace := s.trace ++ interframeEvents s.params k }) := by
  by_cases hwait : k < 5 ∨ s.params.ifdAfterLast = true
  · simp only [interframe, interframeEvents, chunkWait, if_pos hwait]
    obtain ⟨e, hspent, hexec⟩ := exec_wait (bus := .busB) (s := { s with agenda := .act a :: l }) (n := 5000) hc.calm
      (by decide)
    exact ⟨e, ⟨hspent.fault, hspent.grants, hspent.rx⟩,
      (run_cons hexec rfl).trans (congrArg _ (settle_withAgenda _ (.act a :: l) _))⟩
  · simp only [interframe, interframeEvents, chunkWait, if_neg hwait]
    exact ⟨s.env, ⟨fun _ => rfl, rfl, rfl⟩, by simp [Host.Core.run]⟩

/-- What chunk k leaves, `rs` its received bytes (R126, R18). -/
def State.afterChunk (s : State) (k : Nat) (payload rs : List Byte) (e : Env) : State :=
  { s with env := e, rx := rs.drop (6 + (chunkOf payload k).length), ret := .ok, cfgvB := true, canCsn := true,
           txb0 := s.txb0.setList 0 (loadHeader (BitVec.ofNat 11 (0x100 + k)) (chunkOf payload k).length
             ++ chunkOf payload k),
           waited := s.waited + chunkWait s.params k, pc := nextTx k,
           trace := s.trace ++ chunkEvents s.params payload k rs }

/-- Conditions may be signalled in P_TX (R138). -/
theorem window_of_tx (hk : k < 6) (hpc : s.pc = pcWord .tx k) : s.window ≠ .outside := by
  rw [State.window, hpc, pcPhase_pcWord .tx (by omega)]
  decide

theorem chunkEvents_length (p : Config.Params) (hlen : rs.length = 7 + (chunkOf payload k).length) :
    (chunkEvents p payload k rs).length =
      (chunkOf payload k).length + (if p.txLoadSplit then 22 else 17) + (interframeEvents p k).length := by
  rw [chunkEvents, List.length_append, frameEvents_length hlen]

theorem interframeEvents_length_le (p : Config.Params) (k : Nat) : (interframeEvents p k).length ≤ 1 := by
  unfold interframeEvents
  split <;> simp

/-- A chunk has at most one event for each of its bytes and 23 more. -/
theorem chunkEvents_length_bounds (p : Config.Params) (hlen : rs.length = 7 + (chunkOf payload k).length) :
    0 < (chunkEvents p payload k rs).length ∧ (chunkEvents p payload k rs).length ≤ (chunkOf payload k).length + 23 := by
  have hevents := chunkEvents_length p hlen
  have hwait := interframeEvents_length_le p k
  split at hevents <;> omega

/-- How often a frame asks for the lock (R101). -/
def frameBursts (p : Config.Params) : Nat := if p.txLoadSplit then 3 else 2

/-- Chunk k from its phase register on: the frame, the wait, the next phase register. -/
theorem opChunk_runs {k : Fin 6} (hop : s.canst = .operational) (hpay : allWritten s.payload.toList = some payload)
    (hh : s.heldB = false) (hf : s.NoFault ((chunkOf payload k.val).length + 23)) (hg : s.Grants 3 .busB)
    (ha : s.Answers rs) (hrs : rs.length = 7 + (chunkOf payload k.val).length) :
    ∃ e t, s.env.Uses .busB e (chunkEvents s.params payload k.val rs).length (frameBursts s.params) rs.length ∧
      opChunk k s = .next t ∧
      Host.Core.run Sys2Proof.core ((chunkEvents s.params payload k.val rs).length - 1) t =
        .next (settle s.agenda (s.afterChunk k.val payload rs e)) := by
  let u := s.setPc .tx k.val
  let ends := Frame.act (.setPc (nextTx k.val)) :: s.agenda
  have hc : u.CalmFor ((chunkOf payload k.val).length + 23) := .inr hf
  have hframe := frameEvents_length (p := s.params) (id := BitVec.ofNat 11 (0x100 + k.val)) hrs
  obtain ⟨e₁, t, h₁, hexec, hrun⟩ := frame_runs (s := u) (id := BitVec.ofNat 11 (0x100 + k.val))
    (after := interframe s.params k.val ++ [.act (.setPc (nextTx k.val))]) hrs hh (hc.mono (by omega)) hg ha
  let u₁ := u.afterFrame (BitVec.ofNat 11 (0x100 + k.val)) (chunkOf payload k.val) rs e₁
  have hspent : u.Spends .busB u₁.env _ _ _ := h₁
  obtain ⟨e, h₂, hwait⟩ := run_interframe (s := u₁) (k := k.val) (a := .setPc (nextTx k.val)) (l := s.agenda)
    (hspent.calmFor rfl (hc.mono (by rw [show u.params = s.params from rfl, hframe]; split <;> omega)))
  have huses := (hspent.trans rfl h₂).uses (window_of_tx k.isLt rfl)
  refine ⟨e, t, ?_, (opChunk_sends hop hpay).trans hexec, ?_⟩
  · rw [chunkEvents, List.length_append]
    exact huses
  · have hsteps : (chunkEvents s.params payload k.val rs).length - 1 =
        (frameEvents s.params (BitVec.ofNat 11 (0x100 + k.val)) (chunkOf payload k.val) rs).length - 1 +
          (interframeEvents s.params k.val).length := by
      rw [chunkEvents, List.length_append, hframe]
      split <;> omega
    rw [hsteps]
    refine (run_add hrun).trans ?_
    rw [List.append_assoc]
    refine hwait.trans ?_
    rw [settle_act, ← settle_withAgenda s.agenda s.agenda, ← settle_withAgenda s.agenda s.agenda (s.afterChunk _ _ _ _)]
    simp [u₁, u, State.afterFrame, State.afterChunk, chunkEvents, doAct, State.setPc]

/-- A chunk as the next operation in progress. -/
theorem run_chunkRow {i : Instr} {k : Fin 6} {l : List Frame} (hi : chunkRows[k.val]? = some i)
    (hop : s.canst = .operational) (hpay : allWritten s.payload.toList = some payload)
    (hh : s.heldB = false) (hf : s.NoFault ((chunkOf payload k.val).length + 23)) (hg : s.Grants 3 .busB)
    (ha : s.Answers rs) (hrs : rs.length = 7 + (chunkOf payload k.val).length) :
    ∃ e, s.env.Uses .busB e (chunkEvents s.params payload k.val rs).length (frameBursts s.params) rs.length ∧
      Host.Core.run Sys2Proof.core (chunkEvents s.params payload k.val rs).length { s with agenda := .op i :: l } =
        .next (settle l (s.afterChunk k.val payload rs e)) := by
  obtain ⟨e, t, huses, hexec, hrun⟩ := opChunk_runs (s := { s with agenda := l }) hop hpay hh hf hg ha hrs
  obtain ⟨hpos, -⟩ := chunkEvents_length_bounds s.params hrs
  refine ⟨e, huses, ?_⟩
  rw [← settle_withAgenda l l, ← Nat.sub_add_cancel hpos]
  exact run_cons ((exec_chunkRow hi).trans hexec) hrun

end

/-! ### The six chunks (R126, R127) -/

/-- The bytes received in chunk k of one SEND_READINGS. -/
def chunkAnswers (payload rs : List Byte) (k : Nat) : List Byte :=
  (rs.drop (15 * k)).take (7 + (chunkOf payload k).length)

/-- The events of the first n chunks of one SEND_READINGS (R127). -/
def firstChunks (p : Config.Params) (payload rs : List Byte) (n : Nat) : List Event :=
  (List.range n).flatMap fun k => chunkEvents p payload k (chunkAnswers payload rs k)

/-- Transmit buffer 0 after the loads of the first n chunks. -/
def loadedTo (payload : List Byte) (m : Mem) (n : Nat) : Mem :=
  (List.range n).foldl
    (fun m k => m.setList 0 (loadHeader (BitVec.ofNat 11 (0x100 + k)) (chunkOf payload k).length ++ chunkOf payload k)) m

/-- The time waited after the first n chunks (R127). -/
def chunkWaits (p : Config.Params) (n : Nat) : Nat := ((List.range n).map (chunkWait p)).sum

/-- What SEND_READINGS has made of `s` where the chunks 0 to k of the packed `pay` are sent. -/
def State.sentTo (s : State) (pay : Vector (Option Byte) 46) (payload rs : List Byte) (k : Nat) (e : Env) : State :=
  { s with env := e, pay := pay, payLive := true,
           rx := (chunkAnswers payload rs k).drop (6 + (chunkOf payload k).length), ret := .ok,
           cfgvB := true, canCsn := true, txb0 := loadedTo payload s.txb0 (k + 1),
           waited := s.waited + chunkWaits s.params (k + 1), pc := nextTx k,
           trace := s.trace ++ firstChunks s.params payload rs (k + 1) }

section
variable {s : State} {v : List Reading} {payload rs : List Byte} {e e' : Env} {k : Nat} {after : List Frame}
  {pay : Vector (Option Byte) 46}

theorem firstChunks_succ (p : Config.Params) (payload rs : List Byte) (n : Nat) :
    firstChunks p payload rs (n + 1) = firstChunks p payload rs n ++ chunkEvents p payload n (chunkAnswers payload rs n) := by
  rw [firstChunks, List.range_succ, List.flatMap_append, List.flatMap_singleton, firstChunks]

theorem loadedTo_succ (payload : List Byte) (m : Mem) (n : Nat) :
    loadedTo payload m (n + 1) = (loadedTo payload m n).setList 0
      (loadHeader (BitVec.ofNat 11 (0x100 + n)) (chunkOf payload n).length ++ chunkOf payload n) := by
  rw [loadedTo, List.range_succ, List.foldl_concat, loadedTo]

theorem chunkWaits_succ (p : Config.Params) (n : Nat) : chunkWaits p (n + 1) = chunkWaits p n + chunkWait p n := by
  rw [chunkWaits, List.range_succ, List.map_append, List.sum_append, List.map_singleton, List.sum_singleton, chunkWaits]

theorem chunkWaits_all (p : Config.Params) : chunkWaits p 6 = sendWaits p := by
  unfold sendWaits
  split
  next h => simp [chunkWaits, chunkWait, List.range_succ, h]
  next h => simp [chunkWaits, chunkWait, List.range_succ, h]

theorem chunkOf_payloadOf_length (hv : v.length = 23) (k : Nat) :
    (chunkOf (payloadOf v) k).length = min 8 (46 - 8 * k) := by
  rw [chunkOf_length, payloadOf_length, hv]

/-- Each chunk has as many answers as its frame has exchanges. -/
theorem chunkAnswers_length (hv : v.length = 23) (hrs : rs.length = 88) (hk : k < 6) :
    (chunkAnswers (payloadOf v) rs k).length = 7 + (chunkOf (payloadOf v) k).length := by
  have hchunk := chunkOf_payloadOf_length hv k
  rw [chunkAnswers, List.length_take, List.length_drop]
  omega

theorem firstChunks_length_bounds (p : Config.Params) (hv : v.length = 23) (hrs : rs.length = 88) {n : Nat} (hn : n ≤ 6) :
    n ≤ (firstChunks p (payloadOf v) rs n).length ∧ (firstChunks p (payloadOf v) rs n).length ≤ 31 * n := by
  induction n with
  | zero => exact ⟨le_rfl, le_rfl⟩
  | succ n ih =>
    have hbefore := ih (by omega)
    have hchunk := chunkOf_payloadOf_length hv n
    have hlast := chunkEvents_length_bounds p (chunkAnswers_length hv hrs hn)
    rw [firstChunks_succ, List.length_append]
    omega

theorem payload_of_live (h : s.payLive = true) : s.payload = s.pay := if_pos h

/-- SEND_READINGS of a written frame packs it and is its first chunk, the others in progress (R126). -/
theorem opSendReadings_packs (hv : s.frame = some v) (hpack : packed s.x = pay) : opSendReadings after s = opChunk 0
    (State.push { s with pay := pay, payLive := true }
      (chunkRows.tail.map Frame.op ++ Frame.act .dropPay :: after)) := by
  simp only [opSendReadings, hv, hpack]

/-- The first chunk, over the frame packed. -/
theorem afterChunk_first (l l' : List Frame) :
    settle l ((State.push { s with pay := pay, payLive := true } l').afterChunk 0 payload
      (chunkAnswers payload rs 0) e) = settle l (s.sentTo pay payload rs 0 e) := by
  rw [← settle_withAgenda l l, ← settle_withAgenda l l (s.sentTo pay payload rs 0 e), State.sentTo, chunkWaits_succ,
    loadedTo_succ, firstChunks_succ]
  simp only [State.afterChunk, State.push, chunkWaits, loadedTo, firstChunks, List.range_zero, List.map_nil,
    List.sum_nil, List.foldl_nil, List.flatMap_nil, Nat.zero_add, List.nil_append]

/-- The chunk after k. -/
theorem afterChunk_next :
    (s.sentTo pay payload rs k e).afterChunk (k + 1) payload (chunkAnswers payload rs (k + 1)) e' =
      s.sentTo pay payload rs (k + 1) e' := by
  simp only [State.afterChunk, State.sentTo, chunkWaits_succ s.params (k + 1), loadedTo_succ payload s.txb0 (k + 1),
    firstChunks_succ s.params payload rs (k + 1), List.append_assoc, Nat.add_assoc]

/-- After chunk k, the chunks after it, the end of PAY's value and what follows are still to be done. -/
theorem sendReadings_chunks (hv : s.frame = some v) (hpack : packed s.x = pay) (hop : s.canst = .operational)
    (hh : s.heldB = false) (hf : s.NoFault 184) (hg : s.Grants 18 .busB) (ha : s.Answers rs) (hrs : rs.length = 88)
    (hk : k < 6) :
    ∃ e t, s.env.Uses .busB e (firstChunks s.params (payloadOf v) rs (k + 1)).length (frameBursts s.params * (k + 1))
        (min (15 * (k + 1)) 88) ∧
      opSendReadings after s = .next t ∧
      Host.Core.run Sys2Proof.core ((firstChunks s.params (payloadOf v) rs (k + 1)).length - 1) t =
        .next (settle ((chunkRows.drop (k + 1)).map Frame.op ++ .act .dropPay :: (after ++ s.agenda))
          (s.sentTo pay (payloadOf v) rs k e)) := by
  have hlen := frame_length hv
  have hwritten := packed_written hv
  rw [hpack] at hwritten
  have hbursts : frameBursts s.params ≤ 3 := by
    unfold frameBursts
    split <;> decide
  induction k with
  | zero =>
    let u := State.push { s with pay := pay, payLive := true }
      (chunkRows.tail.map Frame.op ++ Frame.act .dropPay :: after)
    have hstart : s.env.Uses .busB u.env 0 0 0 := ⟨rfl, rfl, rfl⟩
    have hpay : allWritten u.payload.toList = some (payloadOf v) := by rwa [payload_of_live (s := u) rfl]
    have hchunk := chunkOf_payloadOf_length hlen 0
    have hanswers := chunkAnswers_length hlen hrs hk
    obtain ⟨e, t, huses, hexec, hrun⟩ := opChunk_runs (s := u) (k := 0) (rs := chunkAnswers (payloadOf v) rs 0) hop
      hpay hh (hstart.noFault (hf.mono (by rw [Fin.val_zero]; omega))) (hstart.grants_of (hg.mono (by omega)))
      (hstart.answers ha) hanswers
    have hfirst : firstChunks s.params (payloadOf v) rs (0 + 1) =
        chunkEvents s.params (payloadOf v) 0 (chunkAnswers (payloadOf v) rs 0) := firstChunks_succ _ _ _ _
    have hreceived : min (15 * (0 + 1)) 88 = (chunkAnswers (payloadOf v) rs 0).length := by omega
    rw [hfirst, hreceived, Nat.mul_one]
    have hagenda : u.agenda = chunkRows.tail.map Frame.op ++ .act .dropPay :: (after ++ s.agenda) :=
      List.append_assoc _ _ _
    rw [hagenda] at hrun
    exact ⟨e, t, huses, (opSendReadings_packs hv hpack).trans hexec, hrun.trans (congrArg _ (afterChunk_first _ _))⟩
  | succ k ih =>
    obtain ⟨e₁, t, huses₁, hexec, hrun₁⟩ := ih (by omega)
    have hrow : k + 1 < chunkRows.length := hk
    rw [List.drop_eq_getElem_cons hrow, List.map_cons, List.cons_append, settle_op] at hrun₁
    let u := s.sentTo pay (payloadOf v) rs k e₁
    have hpay : allWritten u.payload.toList = some (payloadOf v) := by rwa [payload_of_live (s := u) rfl]
    have huses₁ : s.env.Uses .busB u.env (firstChunks s.params (payloadOf v) rs (k + 1)).length
      (frameBursts s.params * (k + 1)) (15 * (k + 1)) := by rwa [Nat.min_eq_left (by omega)] at huses₁
    have hchunk := chunkOf_payloadOf_length hlen (k + 1)
    have hanswers := chunkAnswers_length hlen hrs hk
    obtain ⟨hpos, hbefore⟩ := firstChunks_length_bounds s.params hlen hrs (n := k + 1) (by omega)
    have hasked : frameBursts s.params * (k + 1) ≤ 3 * (k + 1) := Nat.mul_le_mul_right _ hbursts
    obtain ⟨e, huses, hrun⟩ := run_chunkRow (s := u) (k := ⟨k + 1, hk⟩) (rs := chunkAnswers (payloadOf v) rs (k + 1))
      (List.getElem?_eq_getElem hrow) hop hpay hh (huses₁.noFault (hf.mono (by dsimp only; omega)))
      (huses₁.grants_of (hg.mono (by omega))) (huses₁.answers ha) hanswers
    have huses := huses₁.trans huses
    have hreceived : 15 * (k + 1) + (chunkAnswers (payloadOf v) rs (k + 1)).length = min (15 * (k + 1 + 1)) 88 := by
      omega
    rw [firstChunks_succ, List.length_append, Nat.mul_succ, ← hreceived, Nat.sub_add_comm (by omega)]
    refine ⟨e, t, huses, hexec, (run_add hrun₁).trans ?_⟩
    exact hrun.trans (congrArg _ (congrArg _ afterChunk_next))

/-- The whole of SEND_READINGS (R126, R127): the six chunks, the end of PAY's value, and what follows. -/
theorem opSendReadings_runs (hv : s.frame = some v) (hop : s.canst = .operational) (hh : s.heldB = false)
    (hf : s.NoFault 184) (hg : s.Grants 18 .busB) (ha : s.Answers rs) (hrs : rs.length = 88) :
    ∃ e t, opSendReadings after s = .next t ∧
      Host.Core.run Sys2Proof.core ((sendEvents s.params (payloadOf v) rs).length - 1) t =
        .next (settle (after ++ s.agenda) (sentReadings s v rs e)) := by
  obtain ⟨pay, hpack⟩ : ∃ pay, packed s.x = pay := ⟨_, rfl⟩
  obtain ⟨e, t, -, hexec, hrun⟩ := sendReadings_chunks (after := after) hv hpack hop hh hf hg ha hrs (k := 5) (by omega)
  have hlast : (chunkAnswers (payloadOf v) rs 5).drop (6 + (chunkOf (payloadOf v) 5).length) = rs.drop 87 := by
    rw [chunkAnswers, chunkOf_payloadOf_length (frame_length hv), List.take_of_length_le (by simp [hrs]), List.drop_drop]
    rfl
  refine ⟨e, t, hexec, hrun.trans ?_⟩
  rw [State.sentTo, hlast, chunkWaits_all, ← hpack, packed_of_frame hv]
  rfl

end

end Sys2Proof.Machine

/-! ## The Cyclic Scheduler (R109 to R117) -/

namespace Sys2Proof.Machine

section
variable {s : State}

theorem execSchedInit_calm (h : s.Calm) : execSchedInit s = event { s.passed with
    env := s.passed.usedClock.env, lastClk := some s.passed.clockIn, waited := 0, lastStore := some s.passed.clockIn,
    lastTx := some s.passed.clockIn, pc := pcWord .stopCheck 0 } (.clk s.passed.clockIn) :=
  atBoundary_calm h _

theorem execReadClock_calm (h : s.Calm) : execReadClock s = event { s.passed with
    env := s.passed.usedClock.env, lastClk := some s.passed.clockIn, waited := 0, now := some s.passed.clockIn,
    ts := some s.passed.clockIn, pc := pcWord .store 0 } (.clk s.passed.clockIn) :=
  atBoundary_calm h _

theorem execStopCheck_calm (h : s.Calm) : execStopCheck s = event { s.passed with
    env := s.passed.usedStop.env, pc := if s.passed.stopIn then pcWord .shutdown 0 else pcWord .sample 0 }
    (.stopq s.passed.stopIn) :=
  atBoundary_calm h _

theorem execShutdown_calm (h : s.Calm) : execShutdown s = event { s.passed with
    pc := if s.fault = none then pcWord .stopped 0 else pcWord .failed 0 } .unmount := by
  have hpc : (if s.passed.fault.isSome then pcWord .failed 0 else pcWord .stopped 0) =
      if s.fault = none then pcWord .stopped 0 else pcWord .failed 0 := by
    rw [State.passed_fault]
    cases s.fault <;> rfl
  rw [← hpc]
  exact atBoundary_calm h _

theorem execStoreIfDue_notDue {now last : Nat} (hn : s.now = some now) (hl : s.lastStore = some last)
    (hd : now - last < 1000000) : execStoreIfDue s = done (s.setPc .tx 0) := by
  have hdue : storeDue now last = false := decide_eq_false (Nat.not_le.mpr hd)
  simp only [execStoreIfDue, hn, hl, hdue, Bool.false_eq_true, if_false]

theorem execStoreIfDue_due {now last ts : Nat} {v : List Reading} (h : s.Calm) (hn : s.now = some now)
    (hl : s.lastStore = some last) (hts : s.ts = some ts) (hv : s.frame = some v) (hd : 1000000 ≤ now - last) :
    execStoreIfDue s = event { s.passed with
      env := s.passed.usedStore.env, lastStore := some now, pc := pcWord .tx 0 } (.store ts v s.passed.storeIn) := by
  have hdue : storeDue now last = true := decide_eq_true hd
  simp only [execStoreIfDue, hn, hl, hdue, hts, hv, if_true]
  exact atBoundary_calm h _

theorem execTxIfDue_notDue {now last : Nat} (hn : s.now = some now) (hl : s.lastTx = some last)
    (hd : now - last < 500000) : execTxIfDue s = done (s.setPc .sleep 0) := by
  have hdue : txDue now last = false := decide_eq_false (Nat.not_le.mpr hd)
  simp only [execTxIfDue, hn, hl, hdue, Bool.false_eq_true, if_false]

end

/-- Settles O33: the value read is the one draw that both registers and the event get. -/
theorem clockReadsLatchOneValue : Obligations.ClockReadsLatchOneValue := by
  intro s hc
  have hfloor : s.clockFloor ≤ s.passed.clockIn := s.passed_clockFloor ▸ clockFloor_le_clockIn s.passed
  have hinit := execSchedInit_calm hc
  have hread := execReadClock_calm hc
  generalize s.passed.clockIn = v at *
  generalize s.passed.usedClock.env = e at *
  rw [passed_eq s] at hinit hread
  refine ⟨fun l hl => ?_, e, hinit, hread⟩
  rwa [State.clockFloor, hl] at hfloor

/-- Settles O34: the level sampled is the one draw that the event and the phase register get. -/
theorem stopCheckSamplesStop : Obligations.StopCheckSamplesStop := by
  intro s hc
  have h := execStopCheck_calm hc
  generalize s.passed.stopIn = v at *
  rw [passed_eq s] at h
  exact ⟨_, h⟩

/-- Settles O35: the two answers of the comparator. -/
theorem storeIfDueStores : Obligations.StoreIfDueStores := by
  intro s now last ts v hn hl hts hv
  refine ⟨execStoreIfDue_notDue hn hl, fun hd hc => ?_⟩
  have h := execStoreIfDue_due hc hn hl hts hv hd
  generalize s.passed.storeIn = r at *
  rw [passed_eq s] at h
  exact ⟨_, h⟩

/-- Settles O36: the two answers of the comparator; LAST_TX is written by the silent action that follows SEND_READINGS. -/
theorem txIfDueSends : Obligations.TxIfDueSends := by
  intro s now last v rs hn hl
  refine ⟨execTxIfDue_notDue hn hl, fun hd hv hop hh hf hg ha hrs => ?_⟩
  obtain ⟨e, t, hexec, hrun⟩ := opSendReadings_runs (after := [.act .lastTx]) hv hop hh hf hg ha hrs
  have hlast : doAct (sentReadings s v rs e) .lastTx = { sentReadings s v rs e with lastTx := some now } := by
    rw [← hn]
    rfl
  rw [List.singleton_append, settle_act, hlast] at hrun
  exact ⟨e, t, (execTxIfDue_due hn hl hd).trans hexec, hrun⟩

/-- Settles O37: the wait, and the phase register with its event. -/
theorem loopSleepWaits : Obligations.LoopSleepWaits := by
  intro s hc
  let ends := Frame.act (.setPc (pcWord .stopCheck 0)) :: s.agenda
  obtain ⟨e, -, h⟩ := exec_wait (bus := .busA) (s := { s with agenda := ends }) (n := 100000) hc (by decide)
  refine ⟨e, h.trans ?_⟩
  rw [← settle_withAgenda s.agenda ends]
  rfl

/-- Settles O38: FAULT decides between the two end states. -/
theorem shutdownUnmounts : Obligations.ShutdownUnmounts := by
  intro s hc
  have h := execShutdown_calm hc
  rw [passed_eq s] at h
  exact ⟨_, h⟩

/-- Settles O40: the two rows have no meaning, and the phase register alone runs them. -/
theorem finalStatesHaveNoStep : Obligations.FinalStatesHaveNoStep :=
  fun _ => ⟨rfl, rfl, fun hl hpc => step_of_decodePc (i := .pStopped) hl (hpc ▸ decodePc_phase .stopped),
    fun hl hpc => step_of_decodePc (i := .pFailed) hl (hpc ▸ decodePc_phase .failed)⟩

end Sys2Proof.Machine

/-! ## Frame splitting (R123 to R128)

PACK and SPLIT by what they read; the chunk rows and SEND_READINGS by the runs of the section on the transmission; the
receiver by putting the chunks together and reading the payload back. -/

namespace Sys2Proof.Machine

/-! ### PACK and SPLIT (R123, R124) -/

section
variable {s : State} {payload : List Byte}

theorem execPack_written {v : List Reading} (hv : s.frame = some v) : execPack s = .next (settle s.agenda
    { s with pay := Vector.ofFn fun j : Fin 46 => (payloadOf v)[j.val]?, payLive := true }) := by
  rw [← packed_of_frame hv]
  simp only [execPack, hv]
  rfl

theorem execSplit_written (hpay : allWritten s.payload.toList = some payload) (k : Fin 6) :
    execSplit k s = .next (settle s.agenda { s with ret := .bytes (chunkOf payload k.val) }) := by
  simp only [execSplit, chunk_of_written hpay k]
  rfl

/-- A staging buffer that is written holds all 46 bytes (R26). -/
theorem written_length {pay : Vector (Option Byte) 46} (h : allWritten pay.toList = some payload) :
    payload.length = 46 := by
  have hlength := congrArg List.length (allWritten_eq_some.mp h)
  rw [List.length_map, Vector.length_toList] at hlength
  exact hlength.symm

theorem chunkOf_getElem? (payload : List Byte) {k j : Nat} (hj : j < 8) :
    (chunkOf payload k)[j]? = payload[8 * k + j]? := by
  rw [chunkOf, List.getElem?_take_of_lt hj, List.getElem?_drop]

end

/-- Settles O41: a written frame has its 23 readings, two bytes each. -/
theorem packWritesBigEndian : Obligations.PackWritesBigEndian := by
  intro s v hv
  have hlength := frame_length hv
  exact ⟨hlength, by rw [payloadOf_length, hlength], execPack_written hv⟩

/-- Settles O42: 46 bytes are five chunks of 8 and one of 6. -/
theorem splitReturnsTheChunk : Obligations.SplitReturnsTheChunk := by
  intro s payload k hpay
  have hchunk := chunkOf_length payload k.val
  rw [written_length hpay] at hchunk
  refine ⟨?_, fun j hj => chunkOf_getElem? payload (by omega), execSplit_written hpay k⟩
  split <;> omega

/-! ### The chunk rows (R126) -/

theorem chunkRuns_of_chunkRow {i : Instr} {k : Fin 6} (hi : chunkRows[k.val]? = some i) : ChunkRuns i k := by
  intro s payload rs hop hpay hh hf hg ha hrs
  have hchunk : (chunkOf payload k.val).length ≤ 8 := List.length_take_le _ _
  obtain ⟨e, t, -, hexec, hrun⟩ := opChunk_runs hop hpay hh (hf.mono (by omega)) hg ha hrs
  exact ⟨e, t, (exec_chunkRow hi).trans hexec, hrun⟩

/-- Settles O43: each row is the chunk of its own index. -/
theorem chunkRowsRun : Obligations.ChunkRowsRun :=
  ⟨chunkRuns_of_chunkRow rfl, chunkRuns_of_chunkRow rfl, chunkRuns_of_chunkRow rfl, chunkRuns_of_chunkRow rfl,
    chunkRuns_of_chunkRow rfl, chunkRuns_of_chunkRow rfl⟩

/-! ### SEND_READINGS: its counts, its first event, and PAY after it (R126, R127, R26) -/

section
variable {s : State} {v : List Reading} {rs : List Byte} {after : List Frame}

/-- The wait comes after each of the first five chunks, after the last one by IFD_AFTER_LAST (R126). -/
theorem interframeEvents_length (p : Config.Params) (k : Nat) :
    (interframeEvents p k).length = if k < 5 ∨ p.ifdAfterLast = true then 1 else 0 := by
  unfold interframeEvents
  split <;> rfl

/-- 26 events for each of the chunks before the last, 31 where TX_LOAD_SPLIT (R127). -/
theorem firstChunks_length (p : Config.Params) (hv : v.length = 23) (hrs : rs.length = 88) {n : Nat} (hn : n ≤ 5) :
    (firstChunks p (payloadOf v) rs n).length = n * (if p.txLoadSplit then 31 else 26) := by
  induction n with
  | zero => rw [Nat.zero_mul]; rfl
  | succ n ih =>
    have hchunk : (chunkOf (payloadOf v) n).length = 8 := by
      rw [chunkOf_payloadOf_length hv]
      omega
    have hwait : (interframeEvents p n).length = 1 := (interframeEvents_length p n).trans (if_pos (.inl hn))
    rw [firstChunks_succ, List.length_append, ih (by omega),
      chunkEvents_length p (chunkAnswers_length hv hrs (by omega)), hchunk, hwait, Nat.succ_mul]
    split <;> rfl

theorem sendEvents_length (p : Config.Params) (hv : v.length = 23) (hrs : rs.length = 88) :
    (sendEvents p (payloadOf v) rs).length =
      153 + (if p.ifdAfterLast then 1 else 0) + (if p.txLoadSplit then 30 else 0) := by
  have hlast : (chunkOf (payloadOf v) 5).length = 6 := chunkOf_payloadOf_length hv 5
  have hwait : (interframeEvents p 5).length = if p.ifdAfterLast then 1 else 0 := by simp [interframeEvents_length]
  have hall : sendEvents p (payloadOf v) rs = firstChunks p (payloadOf v) rs 6 := rfl
  rw [hall, firstChunks_succ, List.length_append, firstChunks_length p hv hrs le_rfl,
    chunkEvents_length p (chunkAnswers_length hv hrs (by decide)), hlast, hwait]
  split <;> omega

/-- A load begins with its request of the lock, in one burst or in two. -/
theorem opLoadTx0_starts {id : BitVec 11} {data : List Byte} (hc : s.Calm) (hh : s.heldB = false)
    (hg : s.Grants 1 .busB) : ∃ t, opLoadTx0 id data after s = .next t ∧ t.pc = s.pc := by
  unfold opLoadTx0
  split
  · obtain ⟨t, hexec, hpc, -⟩ := opCanBurst_starts (tx := [s.params.opLoadTx0]) hc hh hg
    exact ⟨t, hexec, hpc⟩
  · obtain ⟨t, hexec, hpc, -⟩ := opCanBurst_starts hc hh hg
    exact ⟨t, hexec, hpc⟩

/-- pc is at chunk 0 from the first event of SEND_READINGS on. -/
theorem opSendReadings_starts (hv : s.frame = some v) (hop : s.canst = .operational) (hh : s.heldB = false)
    (hf : s.NoFault 1) (hg : s.Grants 1 .busB) :
    ∃ t, opSendReadings after s = .next t ∧ t.pc = pcWord .tx 0 := by
  obtain ⟨pay, hpack⟩ : ∃ pay, packed s.x = pay := ⟨_, rfl⟩
  have hwritten := packed_written hv
  rw [hpack] at hwritten
  let u := State.push { s with pay := pay, payLive := true }
    (chunkRows.tail.map Frame.op ++ Frame.act .dropPay :: after)
  have hpay : allWritten u.payload.toList = some (payloadOf v) := by rwa [payload_of_live (s := u) rfl]
  have hc : (u.setPc .tx 0).CalmFor 1 := .inr hf
  rw [opSendReadings_packs hv hpack, opChunk_sends (s := u) (k := 0) hop hpay]
  exact opLoadTx0_starts (s := u.setPc .tx 0) hc.calm hh hg

theorem allWritten_replicate_none {α : Type} {n : Nat} (hn : 0 < n) :
    allWritten (List.replicate n (none : Option α)) = none := by
  obtain ⟨m, rfl⟩ := Nat.exists_eq_add_of_le' hn
  rfl

/-- Where PAY holds no value, none of its chunks does (R26, U11). -/
theorem chunk_of_not_live (h : s.payLive = false) (k : Fin 6) : chunk s.payload k.val = none := by
  have hpay : s.payload = Vector.replicate 46 none := if_neg (by simp [h])
  rw [hpay, chunk, Vector.toList_replicate, List.drop_replicate, List.take_replicate]
  exact allWritten_replicate_none (by omega)

end

/-- Settles O44: the chunks one after another, each from where the chunk before it ends. -/
theorem sendReadingsSendsSixFrames : Obligations.SendReadingsSendsSixFrames := by
  intro s v rs hv hop hh hf hg ha hrs
  have hlength := frame_length hv
  refine ⟨sendEvents_length s.params hlength hrs,
    opSendReadings_starts hv hop hh (hf.mono (by omega)) (hg.mono (by omega)), fun k hpos hk => ?_, ?_⟩
  · obtain ⟨j, rfl⟩ := Nat.exists_eq_add_of_le' hpos
    obtain ⟨e, t, -, hexec, hrun⟩ := sendReadings_chunks (after := []) hv rfl hop hh hf hg ha hrs (k := j) (by omega)
    have hrow : j + 1 < chunkRows.length := Nat.lt_succ_of_le hk
    rw [firstChunks_length s.params hlength hrs hk, List.drop_eq_getElem_cons hrow, List.map_cons, List.cons_append,
      settle_op] at hrun
    exact ⟨_, ⟨t, hexec, hrun⟩, if_pos hk⟩
  · obtain ⟨e, t, hexec, hrun⟩ := opSendReadings_runs (after := []) hv hop hh hf hg ha hrs
    exact ⟨e, ⟨t, hexec, hrun⟩, chunk_of_not_live rfl⟩

/-! ### The receiver (R128) -/

/-- The first n chunks, concatenated, are the payload as far as they reach. -/
theorem flatMap_chunkOf (payload : List Byte) (n : Nat) :
    (List.range n).flatMap (chunkOf payload) = payload.take (8 * n) := by
  induction n with
  | zero => rfl
  | succ n ih => rw [List.range_succ, List.flatMap_append, ih, List.flatMap_singleton, chunkOf, Nat.mul_succ, List.take_add]

theorem receivedWords_payloadOf (v : List Reading) : receivedWords (payloadOf v) = v.map BitVec.toNat := by
  induction v with
  | nil => rfl
  | cons r v ih =>
    have hword : (readingHigh r).toNat * 256 + (readingLow r).toNat = r.toNat := by
      rw [readingHigh_toNat, readingLow_toNat]
      omega
    have hfirst : receivedWords (payloadOf (r :: v)) =
        ((readingHigh r).toNat * 256 + (readingLow r).toNat) :: receivedWords (payloadOf v) := rfl
    rw [hfirst, hword, ih, List.map_cons]

/-- Settles O45: the six chunks are the whole payload, and its words are the readings. -/
theorem receiverRecoversTheReadings : Obligations.ReceiverRecoversTheReadings := by
  intro v hv
  have hlength : (payloadOf v).length = 46 := by rw [payloadOf_length, hv]
  rw [flatMap_chunkOf, List.take_of_length_le (by omega), receivedWords_payloadOf]

end Sys2Proof.Machine

/-! ## The loop fault and its path (R138 to R143)

`atFirstBoundary` says where an operation meets its first event boundary. `exec_meets` ties it to `exec`, once for every
instruction: the operation is an `atBoundary` there, or it emits nothing. What a signalled condition does then follows from
the cases of `atBoundary`. -/

namespace Sys2Proof.Machine

section
variable {s t u : State} {c : Nat}

/-! ### From the start of an operation to its first boundary -/

/-- From `s` an operation comes to its first boundary in `u` without a draw, without an event, and inside the phases in which
a condition takes the fault path (R138). -/
structure State.Reaches (s u : State) : Prop where
  env : u.env = s.env
  trace : u.trace = s.trace
  window : s.window = .running → u.window = .running

theorem State.Reaches.refl (s : State) : s.Reaches s := ⟨rfl, rfl, id⟩

theorem window_of_pc {p : Phase} {k : Nat} (hk : k < 32) (hpc : s.pc = pcWord p k) : s.window = windowOf (some p) := by
  rw [State.window, hpc, pcPhase_pcWord p hk]

/-- An operation that writes pc before its first boundary writes a phase in which a condition takes the fault path. -/
theorem reaches_of_pc {p : Phase} {k : Nat} (henv : u.env = s.env) (htrace : u.trace = s.trace) (hk : k < 32)
    (hpc : u.pc = pcWord p k) (hp : windowOf (some p) = .running) : s.Reaches u :=
  ⟨henv, htrace, fun _ => (window_of_pc hk hpc).trans hp⟩

/-- The result is a next state with no new event and with FAULT as it is, or no next state. -/
def EmitsNothing (r : Result) (s : State) : Prop := ∀ t, r = .next t → t.trace = s.trace ∧ t.fault = s.fault

/-- The result is what the boundary in `u` makes of what comes after it, whatever is in progress by then; or, where no
boundary comes, nothing is emitted. -/
def State.Meets (s : State) (r : Result) : Option State → Prop
  | some u => s.Reaches u ∧ ∃ l k, r = atBoundary { u with agenda := l } k
  | none => EmitsNothing r s

theorem emitsNothing_next (htrace : t.trace = s.trace) (hfault : t.fault = s.fault) : EmitsNothing (.next t) s := by
  rintro _ ⟨⟩
  exact ⟨htrace, hfault⟩

theorem emitsNothing_fault (f : Fault) (s : State) : EmitsNothing (.fault f) s := fun _ h => by cases h

theorem emitsNothing_done (htrace : t.trace = s.trace) (hfault : t.fault = s.fault) : EmitsNothing (done t) s :=
  emitsNothing_next ((settle_trace _ t).trans htrace) ((settle_fault _ t).trans hfault)

/-- An operation that asks for something meets a boundary where it is given, and stops by name where it is not. -/
theorem meets_ite {p q : Prop} [Decidable p] [Decidable q] {r : Result} {f : Fault} (hpq : p ↔ q)
    (h : s.Meets r (some u)) : s.Meets (if q then r else .fault f) (if p then some u else none) := by
  by_cases hp : p
  · rwa [if_pos hp, if_pos (hpq.mp hp)]
  · rw [if_neg hp, if_neg (mt hpq.mpr hp)]
    exact emitsNothing_fault f s

/-! ### The primitives and the burst -/

theorem opConfigure_meets (bus : Bus) (s : State) :
    s.Meets (opConfigure bus s) (if s.held bus = true then some s else none) :=
  meets_ite Iff.rfl ⟨.refl s, s.agenda, _, rfl⟩

theorem opCsLow_meets (d : Device) (s : State) :
    s.Meets (opCsLow d s) (if s.held d.bus = true ∧ s.cfgv d.bus = true then some s else none) :=
  meets_ite Bool.and_eq_true_iff.symm ⟨.refl s, s.agenda, _, rfl⟩

theorem opWait_meets (n : Nat) (s : State) : s.Meets (opWait n s) (if 0 < n then some s else none) :=
  meets_ite Iff.rfl ⟨.refl s, s.agenda, _, rfl⟩

theorem opXfer_meets (bus : Bus) (tx : Byte) (s : State) : s.Meets (opXfer bus tx s)
    (if s.held bus = true ∧ s.cfgv bus = true ∧ s.csn bus.device = false then some s else none) :=
  meets_ite (by simp [and_assoc]) ⟨.refl s, s.agenda, _, rfl⟩

theorem opRelease_meets (bus : Bus) (s : State) :
    s.Meets (opRelease bus s) (if s.held bus = true ∧ s.csn bus.device = true then some s else none) :=
  meets_ite Bool.and_eq_true_iff.symm ⟨.refl s, s.agenda, _, rfl⟩

theorem opCsHigh_meets (d : Device) (s : State) : s.Meets (opCsHigh d s) (some s) := ⟨.refl s, s.agenda, _, rfl⟩

theorem opSetMux_meets (sel : BitVec 4) {l : List Frame} (h : s.Reaches u) :
    s.Meets (opSetMux sel { u with agenda := l }) (some u) := ⟨h, l, _, rfl⟩

theorem opAcquire_meets (bus : Bus) {l : List Frame} (h : s.Reaches u) :
    s.Meets (opAcquire bus { u with agenda := l }) (some u) := ⟨h, l, _, rfl⟩

/-- The first boundary of a burst is the one before its `Acquire`. -/
theorem opBurst_meets (bus : Bus) (d : Device) (setup : Nat) (tx : List Byte) {l : List Frame} (h : s.Reaches u) :
    s.Meets (opBurst bus d setup tx { u with agenda := l }) (some u) :=
  opAcquire_meets bus (l := burstTail bus d setup tx ++ l) h

theorem execBurst_meets (bus : Bus) (d : Device) (setup : Nat) (tx : List Byte) (s : State) :
    s.Meets (execBurst bus d setup tx s) (if d.bus = bus ∧ tx ≠ [] then some s else none) :=
  meets_ite (by simp [Instr.wellFormed]) (opBurst_meets bus d setup tx (l := s.agenda) (.refl s))

/-! ### The compositions of one burst -/

theorem opAdcBurst_meets (bytes : List Byte) (after : List Frame) {l : List Frame} (h : s.Reaches u) :
    s.Meets (opAdcBurst bytes after { u with agenda := l }) (some u) :=
  opBurst_meets .busA .adc _ bytes (l := after ++ l) h

theorem opCanBurst_meets (bytes : List Byte) (after : List Frame) {l : List Frame} (h : s.Reaches u) :
    s.Meets (opCanBurst bytes after { u with agenda := l }) (some u) :=
  opBurst_meets .busB .can 0 bytes (l := after ++ l) h

theorem opLoadTx0_meets (id : BitVec 11) (data : List Byte) (after : List Frame) {l : List Frame} (h : s.Reaches u) :
    s.Meets (opLoadTx0 id data after { u with agenda := l }) (some u) := by
  unfold opLoadTx0
  split
  · exact opCanBurst_meets _ _ h
  · exact opCanBurst_meets _ _ h

theorem execCanLoadTx0Cmd_meets (id : BitVec 11) (data : List Byte) (s : State) :
    s.Meets (execCanLoadTx0Cmd id data s) (if data.length ≤ 8 then some s else none) :=
  meets_ite (decide_eq_true_iff (p := data.length ≤ 8)).symm (opLoadTx0_meets id data [] (l := s.agenda) (.refl s))

theorem opReadDirect_meets (i : Fin 7) (s : State) : s.Meets (opReadDirect i s) (some (s.setPc .sample i.val)) :=
  opAdcBurst_meets _ _ (u := s.setPc .sample i.val) (reaches_of_pc rfl rfl (by omega) rfl rfl)

theorem opReadMuxed_meets (j : Fin 16) (s : State) : s.Meets (opReadMuxed j s) (some (s.setPc .sample (j.val + 7))) :=
  opSetMux_meets _ (l := _ ++ s.agenda) (reaches_of_pc rfl rfl (by omega) rfl rfl)

theorem execSampleAll_meets (s : State) :
    s.Meets (execSampleAll s) (some { s with x := Vector.replicate 23 none, pc := pcWord .sample 0 }) :=
  opAdcBurst_meets _ _ (u := { s with x := Vector.replicate 23 none, pc := pcWord .sample 0 })
    (reaches_of_pc rfl rfl (by decide) rfl rfl)

theorem execCanReset_meets (s : State) : s.Meets (execCanReset s) (some { s with canst := .resetting }) := by
  unfold execCanReset opCanReset
  exact opCanBurst_meets _ _ (u := { s with canst := .resetting }) ⟨rfl, rfl, id⟩

theorem opCfgWrite_meets (k : Fin 5) (s : State) : s.Meets (opCfgWrite k s) (some (s.setPc .canCfg k.val)) :=
  opCanBurst_meets _ _ (u := s.setPc .canCfg k.val) (reaches_of_pc rfl rfl (by omega) rfl rfl)

theorem execCanConfigure_meets (s : State) :
    s.Meets (execCanConfigure s) (some { s with canst := .configuring, pc := pcWord .canCfg 0 }) :=
  opCanBurst_meets _ _ (u := { s with canst := .configuring, pc := pcWord .canCfg 0 })
    (reaches_of_pc rfl rfl (by decide) rfl rfl)

theorem execCanInit_meets (s : State) :
    s.Meets (execCanInit s) (some { s with canst := .resetting, pc := pcWord .canReset 0 }) := by
  unfold execCanInit opCanReset
  exact opCanBurst_meets _ _ (u := { s with canst := .resetting, pc := pcWord .canReset 0 })
    (reaches_of_pc rfl rfl (by decide) rfl rfl)

/-! ### Frames -/

theorem execSendFrame_meets (id : BitVec 16) (data : List Byte) (s : State) : s.Meets (execSendFrame id data s)
    (if s.canst = .operational ∧ id.toNat ≤ 0x7FF ∧ data.length ≤ 8 then some s else none) := by
  by_cases h : s.canst = .operational ∧ id.toNat ≤ 0x7FF ∧ data.length ≤ 8
  · obtain ⟨hop, hid, hd⟩ := h
    rw [if_pos ⟨hop, hid, hd⟩, execSendFrame, opSendFrame_sends hop hid hd]
    exact opLoadTx0_meets _ _ _ (l := s.agenda) (.refl s)
  · rw [if_neg h, execSendFrame]
    by_cases hop : s.canst = .operational
    · by_cases hid : id.toNat ≤ 0x7FF
      · have hd : Config.canMaxLen < data.length := Nat.lt_of_not_le fun hd => h ⟨hop, hid, hd⟩
        rw [opSendFrame_payloadTooLong hop hid hd]
        exact emitsNothing_done rfl rfl
      · rw [opSendFrame_idOutOfRange hop (Nat.lt_of_not_le hid)]
        exact emitsNothing_done rfl rfl
    · rw [opSendFrame_refuses hop]
      exact emitsNothing_next rfl rfl

theorem chunk_length_le {pay : Vector (Option Byte) 46} {k : Nat} {data : List Byte} (h : chunk pay k = some data) :
    data.length ≤ Config.canMaxLen := by
  have hlength := congrArg List.length (allWritten_eq_some.mp h)
  rw [List.length_map, List.length_take] at hlength
  rw [Config.canMaxLen]
  omega

/-- A chunk in an Operational driver is its frame: no check of R100 turns it away. -/
theorem opChunk_loads {k : Fin 6} {data : List Byte} (hop : s.canst = .operational)
    (hc : chunk s.payload k.val = some data) :
    opChunk k s = opLoadTx0 ((chunkId k.val).setWidth 11) data
      (.op .canRts0Cmd :: .act .sent :: (interframe s.params k.val ++ [.act (.setPc (nextTx k.val))]))
      (s.setPc .tx k.val) := by
  simp only [opChunk, hop, hc, ne_eq, not_true_eq_false, if_false]
  exact opSendFrame_sends (s := s.setPc .tx k.val) hop (chunkId_le k) (chunk_length_le hc)

theorem opChunk_meets (k : Fin 6) (s : State) : s.Meets (opChunk k s) (s.atChunk k.val) := by
  unfold State.atChunk
  by_cases hop : s.canst = .operational
  · rcases hc : chunk s.payload k.val with _ | data
    · rw [opChunk_unwritten hc hop, if_neg (by simp)]
      exact emitsNothing_fault .unwritten s
    · rw [opChunk_loads hop hc, if_pos ⟨hop, rfl⟩]
      exact opLoadTx0_meets _ _ _ (u := s.setPc .tx k.val) (reaches_of_pc rfl rfl (by omega) rfl rfl)
  · rw [opChunk_refuses hop, if_neg fun h => hop h.1]
    exact emitsNothing_next rfl rfl

theorem opSendReadings_meets (after : List Frame) (s : State) : s.Meets (opSendReadings after s) s.atSending := by
  unfold State.atSending
  rcases hv : s.frame with _ | v
  · rw [opSendReadings_unwritten hv, if_neg (by simp)]
    exact emitsNothing_fault .unwritten s
  · have hwritten := packed_written hv
    have hpacks := opSendReadings_packs (after := after) hv rfl
    generalize packed s.x = pay at *
    rw [hpacks]
    let w := State.push { s with pay := pay, payLive := true } (chunkRows.tail.map Frame.op ++ Frame.act .dropPay :: after)
    by_cases hop : s.canst = .operational
    · rw [if_pos ⟨hop, rfl⟩]
      have hchunk : chunk w.payload 0 = some _ := chunk_of_written hwritten 0
      rw [opChunk_loads (s := w) (k := 0) hop hchunk]
      exact opLoadTx0_meets _ _ _ (u := { s with pay := pay, payLive := true, pc := pcWord .tx 0 })
        (reaches_of_pc rfl rfl (by decide) rfl rfl)
    · rw [if_neg fun h => hop h.1, opChunk_refuses (s := w) (k := 0) hop]
      exact emitsNothing_next rfl rfl

theorem execPack_emitsNothing (s : State) : EmitsNothing (execPack s) s := by
  unfold execPack
  split
  · exact emitsNothing_fault .unwritten s
  · exact emitsNothing_done rfl rfl

theorem execSplit_emitsNothing (k : Fin 6) (s : State) : EmitsNothing (execSplit k s) s := by
  unfold execSplit
  split
  · exact emitsNothing_fault .unwritten s
  · exact emitsNothing_done rfl rfl

/-! ### The Cyclic Scheduler -/

theorem execRun_emitsNothing (s : State) : EmitsNothing (execRun s) s := by
  unfold execRun
  split
  · exact emitsNothing_done rfl rfl
  · exact emitsNothing_fault .runNotIdle s

theorem execSchedInit_meets (s : State) : s.Meets (execSchedInit s) (some s) := ⟨.refl s, s.agenda, _, rfl⟩

theorem execStopCheck_meets (s : State) : s.Meets (execStopCheck s) (some s) := ⟨.refl s, s.agenda, _, rfl⟩

theorem execReadClock_meets (s : State) : s.Meets (execReadClock s) (some s) := ⟨.refl s, s.agenda, _, rfl⟩

theorem execShutdown_meets (s : State) : s.Meets (execShutdown s) (some s) := ⟨.refl s, s.agenda, _, rfl⟩

theorem execLoopSleep_meets (s : State) : s.Meets (execLoopSleep s) (some s) := by
  rw [execLoopSleep, opWait, if_pos (by decide)]
  exact ⟨.refl s, .act (.setPc (pcWord .stopCheck 0)) :: s.agenda, _, rfl⟩

theorem execStoreIfDue_meets (s : State) : s.Meets (execStoreIfDue s) (atFirstBoundary s .storeIfDue) := by
  rcases hn : s.now with _ | now
  · rw [execStoreIfDue_unclocked hn]
    simp only [atFirstBoundary, hn]
    exact emitsNothing_fault .unwritten s
  rcases hl : s.lastStore with _ | last
  · rw [execStoreIfDue_unstarted hl]
    simp only [atFirstBoundary, hn, hl]
    exact emitsNothing_fault .unwritten s
  simp only [atFirstBoundary, hn, hl]
  by_cases hd : 1000000 ≤ now - last
  · rcases hts : s.ts with _ | ts
    · rw [execStoreIfDue_due_unwritten hn hl hd (.inl hts), if_neg (by simp)]
      exact emitsNothing_fault .unwritten s
    rcases hv : s.frame with _ | v
    · rw [execStoreIfDue_due_unwritten hn hl hd (.inr hv), if_neg (by simp)]
      exact emitsNothing_fault .unwritten s
    have hdue : storeDue now last = true := decide_eq_true hd
    simp only [execStoreIfDue, hn, hl, hdue, hts, hv, if_true]
    rw [if_pos ⟨hd, rfl, rfl⟩]
    exact ⟨.refl s, s.agenda, _, rfl⟩
  · rw [execStoreIfDue_notDue hn hl (Nat.lt_of_not_le hd), if_neg fun h => hd h.1]
    exact emitsNothing_done rfl rfl

theorem execTxIfDue_meets (s : State) : s.Meets (execTxIfDue s) (atFirstBoundary s .txIfDue) := by
  rcases hn : s.now with _ | now
  · rw [execTxIfDue_unclocked hn]
    simp only [atFirstBoundary, hn]
    exact emitsNothing_fault .unwritten s
  rcases hl : s.lastTx with _ | last
  · rw [execTxIfDue_unstarted hl]
    simp only [atFirstBoundary, hn, hl]
    exact emitsNothing_fault .unwritten s
  simp only [atFirstBoundary, hn, hl]
  by_cases hd : 500000 ≤ now - last
  · rw [execTxIfDue_due hn hl hd, if_pos hd]
    exact opSendReadings_meets _ s
  · rw [execTxIfDue_notDue hn hl (Nat.lt_of_not_le hd), if_neg hd]
    exact emitsNothing_done rfl rfl

/-! ### Every instruction -/

/-- An operation meets its first boundary exactly where `atFirstBoundary` has it; elsewhere it emits nothing. -/
theorem exec_meets (i : Instr) (s : State) : s.Meets (exec i s) (atFirstBoundary s i) := by
  cases i with
  | adcCmd | adcCmdA0 | adcCmdA1 | adcCmdA2 | adcCmdA3 | adcCmdA4 | adcCmdA5 | adcCmdA6 | adcCmdA7 | readAdc =>
    exact opAdcBurst_meets _ _ (l := s.agenda) (.refl s)
  | canResetCmd | canWriteCmd | canWriteCmdW1 | canWriteCmdW2 | canWriteCmdW3 | canWriteCmdW4 | canWriteCmdW5
  | canRts0Cmd =>
    exact opCanBurst_meets _ _ (l := s.agenda) (.refl s)
  | acq bus => exact opAcquire_meets bus (l := s.agenda) (.refl s)
  | csh d => exact opCsHigh_meets d s
  | muxSet sel | muxPattern sel => exact opSetMux_meets sel (l := s.agenda) (.refl s)
  | cfg bus => exact opConfigure_meets bus s
  | csl d => exact opCsLow_meets d s
  | wait n => exact opWait_meets n s
  | xfer bus tx => exact opXfer_meets bus tx s
  | rel bus => exact opRelease_meets bus s
  | burst bus d setup tx => exact execBurst_meets bus d setup tx s
  | canLoadTx0Cmd id data => exact execCanLoadTx0Cmd_meets id data s
  | sendFrame id data => exact execSendFrame_meets id data s
  | canReset => exact execCanReset_meets s
  | canConfigure => exact execCanConfigure_meets s
  | canInit => exact execCanInit_meets s
  | sampleAll => exact execSampleAll_meets s
  | cfgWrite1 | cfgWrite2 | cfgWrite3 | cfgWrite4 | cfgWrite5 => exact opCfgWrite_meets _ s
  | readDirect0 | readDirect1 | readDirect2 | readDirect3 | readDirect4 | readDirect5 | readDirect6 =>
    exact opReadDirect_meets _ s
  | readMuxed7 | readMuxed8 | readMuxed9 | readMuxed10 | readMuxed11 | readMuxed12 | readMuxed13 | readMuxed14
  | readMuxed15 | readMuxed16 | readMuxed17 | readMuxed18 | readMuxed19 | readMuxed20 | readMuxed21 | readMuxed22 =>
    exact opReadMuxed_meets _ s
  | sendChunk0 | sendChunk1 | sendChunk2 | sendChunk3 | sendChunk4 | sendChunk5 => exact opChunk_meets _ s
  | schedInit => exact execSchedInit_meets s
  | stopCheck => exact execStopCheck_meets s
  | readClock => exact execReadClock_meets s
  | loopSleep => exact execLoopSleep_meets s
  | shutdown => exact execShutdown_meets s
  | storeIfDue => exact execStoreIfDue_meets s
  | sendReadings => exact opSendReadings_meets [] s
  | txIfDue => exact execTxIfDue_meets s
  | adcAnswer | rd16Word => exact emitsNothing_done rfl rfl
  | pack => exact execPack_emitsNothing s
  | split k => exact execSplit_emitsNothing k s
  | run => exact execRun_emitsNothing s
  | pIdle => exact emitsNothing_next rfl rfl
  | pStopped | pFailed => exact emitsNothing_fault _ s

/-! ### A condition at a boundary of the running phases (R138, R139) -/

theorem atFirstBoundary_reaches {i : Instr} (hb : atFirstBoundary s i = some u) : s.Reaches u := by
  have hmeets := exec_meets i s
  rw [hb] at hmeets
  exact hmeets.1

/-- Whatever the operation is, a condition signalled at its first boundary is the loop fault of the state there. -/
theorem exec_takesLoopFault {i : Instr} (hb : atFirstBoundary s i = some u) (hw : u.window = .running)
    (hf : s.faultIn = some c) : exec i s = .next (takeLoopFault (.signalled c) u.usedFault) := by
  have hmeets := exec_meets i s
  rw [hb] at hmeets
  obtain ⟨hreach, l, k, hexec⟩ := hmeets
  have hfu : u.faultIn = some c := by rwa [State.faultIn, hreach.env]
  rw [hexec]
  exact atBoundary_running (s := { u with agenda := l }) hw hfu k

/-- No event, and the loop fault is taken or FAULT is left. -/
def State.Struck (s : State) (c : Nat) (t : State) : Prop :=
  t.trace = s.trace ∧
  (t.fault = s.fault ∨
    (t.fault = some (.signalled c) ∧ t.pc = pcWord .shutdown 0 ∧ t.agenda = [.log (.signalled c)]))

theorem struck_takeLoopFault (h : u.trace = s.trace) : s.Struck c (takeLoopFault (.signalled c) u) :=
  ⟨h, .inr ⟨rfl, rfl, rfl⟩⟩

theorem exec_struck {i : Instr} (hw : s.window = .running) (hf : s.faultIn = some c) (h : exec i s = .next t) :
    s.Struck c t := by
  rcases hb : atFirstBoundary s i with _ | u
  · have hmeets := exec_meets i s
    rw [hb] at hmeets
    exact (hmeets t h).imp_right .inl
  · have hreach := atFirstBoundary_reaches hb
    rw [exec_takesLoopFault hb (hreach.window hw) hf] at h
    cases h
    exact struck_takeLoopFault hreach.trace

theorem opLog_struck {d : Cause} (hw : s.window = .running) (hf : s.faultIn = some c) (h : opLog d s = .next t) :
    s.Struck c t := by
  rw [opLog, atBoundary_running hw hf] at h
  cases h
  exact struck_takeLoopFault rfl

/-- Settles O48: what a step runs meets the boundary at hand, or emits nothing; of what is in progress the words and the
operations are instructions, and the silent actions have no boundary. -/
theorem noEventAtASignalledBoundary : Obligations.NoEventAtASignalledBoundary := by
  intro s t c hw hf h
  rcases hl : s.agenda with _ | ⟨f, l⟩
  · simp only [step, hl] at h
    split at h
    next => exact exec_struck hw hf h
    next => cases h
  · simp only [step, hl] at h
    cases f with
    | word n w =>
      dsimp only at h
      split at h
      next => exact exec_struck (s := { s with agenda := l }) hw hf h
      next => cases h
    | op i => exact exec_struck (s := { s with agenda := l }) hw hf h
    | log d => exact opLog_struck (s := { s with agenda := l }) hw hf h
    | act a =>
      cases h
      exact ⟨by simp, .inl (by simp)⟩

/-! ### The fault path, and a condition on it (R139, R141) -/

theorem step_of_log {d : Cause} {l : List Frame} (hl : s.agenda = .log d :: l) :
    step s = opLog d { s with agenda := l } := by
  simp only [step, hl]

theorem step_of_shutdown (hl : s.agenda = []) (hpc : s.pc = pcWord .shutdown 0) : step s = execShutdown s :=
  step_of_decodePc (i := .shutdown) hl (hpc ▸ decodePc_phase .shutdown)

/-- The first half of the fault path: `Log`. -/
theorem step_log {d : Cause} (hc : s.Calm) (hl : s.agenda = [.log d]) :
    ∃ e, s.Spends .busA e 1 0 0 ∧
      step s = .next { s with env := e, agenda := [], trace := s.trace ++ [.log d] } := by
  let u : State := { s with agenda := [] }
  have hspent := spends_passed u .busA
  have h : opLog d u = event u.passed (.log d) := atBoundary_calm (s := u) hc _
  rw [passed_eq u] at h
  exact ⟨u.passed.env, ⟨hspent.fault, hspent.grants, hspent.rx⟩, (step_of_log hl).trans h⟩

/-- The second half: `Unmount`, and P_FAILED where FAULT is set (R116, R18). -/
theorem step_unmount (hc : s.Calm) (hl : s.agenda = []) (hpc : s.pc = pcWord .shutdown 0) (hf : s.fault ≠ none) :
    step s = .next { s with env := s.passed.env, pc := pcWord .failed 0, trace := s.trace ++ [.unmount] } := by
  have h := execShutdown_calm hc
  rw [if_neg hf, passed_eq s] at h
  refine (step_of_shutdown hl hpc).trans (h.trans ?_)
  rw [event, done, State.emit, hl, settle_nil, ← hl]

/-- The fault path without a further condition is `Log` and `Unmount`, and ends in P_FAILED (R139). -/
theorem faultPath_runs {d : Cause} (hc : s.CalmFor 2) (hl : s.agenda = [.log d]) (hpc : s.pc = pcWord .shutdown 0)
    (hf : s.fault ≠ none) :
    ∃ e, Host.Core.run Sys2Proof.core 2 s = .next { s with
      env := e, pc := pcWord .failed 0, agenda := [], trace := s.trace ++ [.log d, .unmount] } := by
  obtain ⟨e, hspent, hlog⟩ := step_log hc.calm hl
  let u : State := { s with env := e, agenda := [], trace := s.trace ++ [.log d] }
  have hspent : s.Spends .busA u.env 1 0 0 := hspent
  have hunmount := step_unmount (s := u) (hspent.calmFor (n := 1) rfl hc).calm rfl hpc hf
  refine ⟨u.passed.env, ?_⟩
  have hrun : Host.Core.run Sys2Proof.core 2 s = step u := by
    simp only [Host.Core.run, Sys2Proof.core, hlog]
    rw [hunmount]
  rw [hrun, hunmount, List.append_assoc]
  rfl

/-- Settles O47: the loop fault is taken at the boundary that `exec_meets` gives, and the path from there has two steps. -/
theorem loopFaultRunsTheFaultPath : Obligations.LoopFaultRunsTheFaultPath := by
  intro s u i c hb hw hdraws
  obtain ⟨later, hdraws⟩ := hdraws
  have hreach := atFirstBoundary_reaches hb
  have hf : s.faultIn = some c := by
    rw [State.faultIn, ← hdraws]
    rfl
  let t := takeLoopFault (.signalled c) u.usedFault
  have hcalm : t.CalmFor 2 := by
    refine .inr ⟨later, ?_⟩
    have hrest : t.env.fault = u.env.fault.tail := rfl
    rw [hrest, hreach.env, ← hdraws]
    rfl
  obtain ⟨e, hrun⟩ := faultPath_runs hcalm rfl rfl (Option.some_ne_none _)
  have htrace : t.trace = s.trace := hreach.trace
  rw [htrace] at hrun
  obtain ⟨-, -, -, hfailed⟩ := finalStatesHaveNoStep { t with
    env := e, pc := pcWord .failed 0, agenda := [], trace := s.trace ++ [.log (.signalled c), .unmount] }
  exact ⟨t, e, exec_takesLoopFault hb hw hf, takeLoopFault_taken _ u.usedFault, hrun, hfailed rfl rfl⟩

/-- Settles O49: on either path the boundary is one of P_SHUTDOWN, and P_FAILED has no step. -/
theorem secondConditionEndsTheRun : Obligations.SecondConditionEndsTheRun := by
  intro s c hpc hl hf
  have hw : s.window = .shutdown := window_of_pc (by decide) hpc
  have hstep : step s = .next (endFailed (.signalled c) s.usedFault) := by
    obtain hl | ⟨d, hl⟩ := hl
    · rw [step_of_shutdown hl hpc]
      exact atBoundary_shutdown hw hf _
    · rw [step_of_log hl]
      exact atBoundary_shutdown (s := { s with agenda := [] }) hw hf _
  obtain ⟨-, -, -, hfailed⟩ := finalStatesHaveNoStep (endFailed (.signalled c) s.usedFault)
  exact ⟨_, hstep, rfl, rfl, rfl, Option.some_ne_none _, hfailed rfl rfl⟩

end

end Sys2Proof.Machine
